-- ==== Sys2Proof/Word.lean ====
section
/-! DEFINITION. The two word types of the machine (spec/00_scope.md section 6, R50): bytes are 8 bits wide, addresses and
register pairs are 16 bits wide. Everything a repair might have to mend (bit fields, sign extension, byte order) stands in
Sys2Proof/Machine/Bits.lean. -/

namespace Sys2Proof

/-- One byte: a register, a memory cell, an opcode or an immediate `n` / `e` (R10, R50). -/
abbrev Byte := BitVec 8

/-- One 16-bit value: an address, a register pair, SP, PC or an immediate `nn` (R11, R13, R14). -/
abbrev Word := BitVec 16

end Sys2Proof
end

