-- ==== Sys2Proof/Machine/Bits.lean ====
section
/-! DEFINITION. Bit fields, sign extension and byte order (spec/00_scope.md section 7, R11, R51, R92, R93). -/

namespace Sys2Proof.Machine

/-- `v[7:0]`: the low byte of a 16-bit value (R11, R51). -/
def loByte (w : Word) : Byte := w.extractLsb' 0 8

/-- `v[15:8]`: the high byte of a 16-bit value (R11, R51). -/
def hiByte (w : Word) : Byte := w.extractLsb' 8 8

/-- `hi:lo`: the 16-bit value `hi * 256 + lo` (R11, R93). -/
def mkWord (hi lo : Byte) : Word := hi ++ lo

/-- `sext_16(v)`: a signed displacement (R92). -/
def sext16 (v : Byte) : Word := v.signExtend 16

/-- `zext_16(v)`: an unsigned immediate widened to 16 bits (spec/00_scope.md section 7). -/
def zext16 (v : Byte) : Word := v.setWidth 16

/-- A truth value as the bit 0 or 1 of arithmetic (R160: `c` a bit). -/
def bitNat (b : Bool) : Nat := if b then 1 else 0


/-- `k` rounds of a loop body: the `while counter >= period` loops of the timers and the sound unit run their body
`counter / period` times (R460, R368). -/
def repeatN {α : Type} : Nat → (α → α) → α → α
  | 0, _, x => x
  | k + 1, f, x => repeatN k f (f x)

end Sys2Proof.Machine
end

