-- ==== Sys2Proof/Config.lean ====
section
/-! DEFINITION. The constants an implementation fixes, each at the value the spec names (spec/00_scope.md section 6). The
OPEN parameters of that table (the cartridge, the boot image, the input mask, the noise reseed) are not here: they are plain
data of the state (Sys2Proof/Machine/State.lean, `Platform`), so that every statement holds for all of their values. The spec
calls no value undefined (R504), so there is no opaque free value. -/

namespace Sys2Proof.Config

/-- `INT_DISPATCH_CYCLES`: the cycles an interrupt dispatch consumes (R455, conflict C2: the document's figure). -/
def intDispatchCycles : Nat := 5

/-- `HALT_IDLE_CYCLES`: the cost of a step while halted (R431, decision D14). -/
def haltIdleCycles : Nat := 4

/-- `BLOCKED_READ_VALUE`: what a read of a blocked region returns (R59, R60, decision D9). -/
def blockedReadValue : Byte := 0xFF

/-- What a read of disabled or absent external RAM returns (R61). -/
def disabledRamValue : Byte := 0xFF

/-- What a read beyond the end of the cartridge ROM returns (R57, decision D11). -/
def beyondRomValue : Byte := 0xFF

/-- `RAM_ENABLE_SENTINEL`: the low nibble that enables external RAM (R72). -/
def ramEnableSentinel : BitVec 4 := 0xA

/-- The bits of IE and IF that take part in the check: the four sources (R450, R453). -/
def interruptMask : Byte := 0x17

/-- The default of the OPEN parameter `NOISE_RESEED` (R375, decision D52). -/
def noiseReseedDefault : BitVec 15 := 0x7FFF

/-- What an address that a memory list does not name reads as: the reset contents of every plain byte (R25: "every byte of
`mem` not listed above is 0x00; `ext_ram` is all 0x00", decision D5). -/
def unlistedByte : Byte := 0x00

end Sys2Proof.Config
end

