-- ==== Sys2Proof/Machine/State.lean ====
section
/-! DEFINITION. The state of the machine as plain data (spec/10_state.md): CPU registers, interrupt state, run state, timers,
memory, bank controller, PPU, APU, the input-select register, and the platform the machine is plugged into (cartridge, boot
image, input mask, noise reseed: the OPEN parameters of spec/00_scope.md section 6). The reset state is R25's table. -/

namespace Sys2Proof.Machine

/-- A sparse memory: (address, byte) pairs. An address that no pair names reads as `Config.unlistedByte`. The canonical form and
the read and write operations are in Sys2Proof/Machine/Memory.lean. -/
abbrev Memory := List Host.Cell

/-- Why the machine stops. -/
inductive Fault where
  /-- Raised by `step` in a state whose sticky `fault` field is set: "while it is set no step is enabled" (R440). The instruction
  that set the field (one of the eleven unimplemented opcodes or 0x10) ended in a next state. Safe: it is the spec's own stop. -/
  | unimplementedOpcode (op : Byte) (addr : Word)
deriving DecidableEq, Repr

/-- Why the model declines to go on. -/
inductive Refusal where
  /-- An instruction the model gives no meaning; raised by a refused arm of `exec` only (there is none). Safe. -/
  | notModelled (mnemonic : String)
  /-- The decoder read no instruction from the three bytes at the program counter. Never raised: every opcode byte has a row
  (`Sys2Proof.Laws.decode_three_total`). Safe. -/
  | undecodable (op : Byte)
deriving DecidableEq, Repr

/-- The CPU registers (R10 to R14). The four pairs are views of the eight bytes (R11). -/
structure Regs where
  /-- The accumulator. -/
  a : Byte
  /-- The flags Z, N, H, C in bits 7 to 4; bits 3:0 are always 0 (R12). -/
  f : Byte
  b : Byte
  c : Byte
  d : Byte
  e : Byte
  h : Byte
  l : Byte
  /-- The stack pointer (R13). -/
  sp : Word
  /-- The program counter (R14). -/
  pc : Word
deriving DecidableEq, Repr

/-- The interrupt state (R15). -/
structure Irq where
  /-- IE, the enable byte, 0xFFFF. -/
  enable : Byte
  /-- IF, the pending byte, 0xFF0F. -/
  flags : Byte
  /-- IME, the global enable as the dispatcher sees it now. -/
  ime : Bool
  /-- `ime_pipe[0]`: the request made by the instruction of the step before. -/
  pipe0 : Option Bool
  /-- `ime_pipe[1]`: the request made by the instruction of this step. -/
  pipe1 : Option Bool
deriving DecidableEq, Repr

/-- The run state of the CPU (R16 to R19) and the two values R430's step carries from one phase to the next. -/
structure Control where
  /-- No opcode is fetched while set (R16, R431). -/
  halted : Bool
  /-- The next opcode fetch does not advance PC (R16, R91). -/
  haltBug : Bool
  /-- The boot image overlays 0x0000-0x00FF (R19, R56). -/
  bootMapped : Bool
  /-- The sticky fault (R17). -/
  fault : Option Fault
  /-- The sum of all cycle costs since reset (R18). -/
  cycleClock : Nat
  /-- `addr` of R430: the address the current instruction's opcode byte was fetched from (the model's own field). -/
  instrAddr : Word
  /-- `cost` of R430: the cycles the last instruction's rule returned to the step (the model's own field). -/
  cost : Nat
deriving DecidableEq, Repr

/-- The two timers (R20). -/
structure Timer where
  /-- Cycles accumulated toward the next DIV increment. -/
  divCounter : Nat
  /-- DIV, 0xFF04. -/
  div : Byte
  /-- Cycles accumulated toward the next TIMA increment. -/
  timaCounter : Nat
  /-- TIMA, 0xFF05. -/
  tima : Byte
  /-- TMA, 0xFF06. -/
  tma : Byte
  /-- TAC, 0xFF07. -/
  tac : Byte
deriving DecidableEq, Repr

/-- The bank controller's variable state (R21, R70 to R73). -/
structure Bank where
  /-- The active ROM bank index (never 0). -/
  romBank : Nat
  /-- The RAM-enable flag. -/
  ramEnable : Bool
  /-- The banking mode selector, which no write changes (R73). -/
  mode : BitVec 1
  /-- How many BankOutOfRange reports the controller has made (R71; a host diagnostic, kept as a count). -/
  outOfRangeReports : Nat
deriving DecidableEq, Repr

/-- The four modes of the PPU (R22, R310). -/
inductive PpuMode where
  | oamScan | drawing | hBlank | vBlank
deriving DecidableEq, Repr

/-- One row of the framebuffer: 160 shades of 2 bits. -/
abbrev Row := Vector (BitVec 2) 160

/-- The PPU (R22). -/
structure Ppu where
  mode : PpuMode
  /-- LY, 0xFF44: the scanline counter, 0 to 153. -/
  ly : Byte
  /-- `ppu_acc`: cycles since the current mode (in VBlank the current line) was entered. -/
  acc : Nat
  /-- LCDC, 0xFF40. -/
  lcdc : Byte
  /-- STAT, 0xFF41, the stored bits 7:3. -/
  stat : Byte
  /-- SCY, 0xFF42. -/
  scy : Byte
  /-- SCX, 0xFF43. -/
  scx : Byte
  /-- LYC, 0xFF45. -/
  lyc : Byte
  /-- DMA, 0xFF46: the page last written. -/
  dma : Byte
  /-- BGP, 0xFF47. -/
  bgp : Byte
  /-- OBP0, 0xFF48. -/
  obp0 : Byte
  /-- OBP1, 0xFF49. -/
  obp1 : Byte
  /-- WY, 0xFF4A. -/
  wy : Byte
  /-- WX, 0xFF4B. -/
  wx : Byte
  /-- `fb`: 144 rows, top line first. -/
  fb : Vector Row 144
deriving DecidableEq, Repr

/-- The four sound channels under the document's numbers (R23): 0 and 1 pulse, 2 wave, 3 noise. -/
inductive Chan where
  | ch0 | ch1 | ch2 | ch3
deriving DecidableEq, Repr

/-- One channel record (R362). A field that a channel does not have (the volume of channel 2, the shift register of channels 0 to
2, the sweep of channels 1 to 3) stays 0 and nothing reads it. -/
structure Channel where
  active : Bool
  /-- Current envelope volume, 0 to 15. -/
  volume : BitVec 4
  /-- Envelope clocks per volume step; 0 = envelope off. -/
  envPeriod : BitVec 3
  /-- 1 = increase. -/
  envDir : Bool
  /-- Envelope clocks since the last step. -/
  envTimer : Nat
  /-- The length counter, 0 to 64 (0 to 256 for channel 2). -/
  length : Nat
  /-- The frequency value (rawFrequency). -/
  freq : BitVec 11
  /-- The pending-restart flag. -/
  restart : Bool
  /-- Cycles accumulated toward the next waveform step. -/
  freqTimer : Nat
  /-- The position in the duty pattern (0 to 7) or the sample table (0 to 31). -/
  phase : Nat
  /-- Sweep clocks since the last recomputation (channel 0). -/
  sweepTimer : Nat
  /-- The noise shift register (channel 3). -/
  lfsr : BitVec 15
deriving DecidableEq, Repr

/-- The APU (R23, R362). Wave memory, 0xFF30-0xFF3F, is plain storage in `State.mem` (R365). -/
structure Apu where
  ch0 : Channel
  ch1 : Channel
  ch2 : Channel
  ch3 : Channel
  /-- The stored bytes of the sound registers, by offset from 0xFF10 (R364). The entries of 0xFF15 and 0xFF1F, which are plain
  storage in `State.mem` (R24, log entry 20), stay 0 and nothing reads them. -/
  regs : Vector Byte 22
  /-- NR52, 0xFF26, the stored bits 7:4 (R366). -/
  nr52 : Byte
  /-- Cycles accumulated toward the next sequencer step (R370). -/
  seqCounter : Nat
  /-- The next sequencer step, 0 to 7 (R370). -/
  seqStep : Nat
deriving DecidableEq, Repr

/-- The two variants of the bank controller (R70). -/
inductive CartKind where
  | noController | banked
deriving DecidableEq, Repr

/-- `CART`: the cartridge, an argument of the model (spec/00_scope.md section 6). -/
structure Cart where
  kind : CartKind
  /-- The ROM bytes; a byte below `romSize` that is not listed is 0x00. -/
  rom : Memory
  /-- The length of `CART.rom` in bytes (R57). -/
  romSize : Nat
  /-- The declared number of 16 KiB ROM banks (R71). -/
  bankCount : Nat
  /-- The size of the external RAM in bytes; 0 when there is none (R61). -/
  ramSize : Nat
deriving DecidableEq, Repr

/-- The OPEN parameters of spec/00_scope.md section 6. No step changes them; the host may, between steps (R470, R480). -/
structure Platform where
  cart : Cart
  /-- `BOOT_IMAGE`: 256 bytes or none (decision D3). -/
  bootImage : Option (Vector Byte 256)
  /-- What `INPUT()` returns now: bits 3:0 Down Up Left Right, bits 7:4 Start Select B A, 1 = pressed (R66, decision D57). -/
  input : Byte
  /-- `NOISE_RESEED` (R375, decision D52). -/
  noiseReseed : BitVec 15
deriving DecidableEq, Repr

/-- Everything the spec gives the machine. -/
structure State where
  regs : Regs
  irq : Irq
  ctl : Control
  timer : Timer
  /-- `mem`: every plain byte of the 64 KiB image (R21). The bytes with behaviour of their own are the named fields. -/
  mem : Memory
  /-- `ext_ram`: the cartridge's RAM bytes, by offset (R61). -/
  extRam : Memory
  bank : Bank
  ppu : Ppu
  apu : Apu
  /-- P1, 0xFF00, the stored bits 7:4 (R66). -/
  p1 : Byte
  plat : Platform
deriving DecidableEq, Repr

/-- A channel record with every field 0 (R25). -/
def Channel.zero : Channel where
  active := false
  volume := 0
  envPeriod := 0
  envDir := false
  envTimer := 0
  length := 0
  freq := 0
  restart := false
  freqTimer := 0
  phase := 0
  sweepTimer := 0
  lfsr := 0

/-- The sound registers' reset bytes, 0xFF10 to 0xFF25 (R25). -/
def Apu.resetRegs : Vector Byte 22 :=
  #v[0x80, 0xBF, 0xF3, 0x00, 0xBF, 0x00, 0x3F, 0x00, 0x00, 0xBF, 0x7F,
     0xFF, 0x9F, 0x00, 0xBF, 0x00, 0xFF, 0x00, 0x00, 0xBF, 0x77, 0xF3]

/-- The APU after reset (R25): every channel field 0 and the noise shift register at `NOISE_RESEED`. -/
def Apu.reset (reseed : BitVec 15) : Apu where
  ch0 := Channel.zero
  ch1 := Channel.zero
  ch2 := Channel.zero
  ch3 := { Channel.zero with lfsr := reseed }
  regs := Apu.resetRegs
  nr52 := 0xF0
  seqCounter := 0
  seqStep := 0

/-- The PPU after reset (R25). -/
def Ppu.reset : Ppu where
  mode := .oamScan
  ly := 0
  acc := 0
  lcdc := 0x91
  stat := 0x00
  scy := 0x00
  scx := 0x00
  lyc := 0x00
  dma := 0x00
  bgp := 0xFC
  obp0 := 0xFF
  obp1 := 0xFF
  wy := 0x00
  wx := 0x00
  fb := Vector.replicate 144 (Vector.replicate 160 0)

/-- The CPU registers after reset (R25); PC depends on the boot image (R481). -/
def Regs.reset (boot : Bool) : Regs where
  a := 0x01
  f := 0xB0
  b := 0x00
  c := 0x13
  d := 0x00
  e := 0xD8
  h := 0x01
  l := 0x4D
  sp := 0xFFFE
  pc := if boot then 0x0000 else 0x0100

/-- The state after reset on a given platform (R25, R480, R481). -/
def State.resetOn (p : Platform) : State where
  regs := Regs.reset p.bootImage.isSome
  irq := { enable := 0x00, flags := 0x00, ime := false, pipe0 := none, pipe1 := none }
  ctl :=
    { halted := false, haltBug := false, bootMapped := p.bootImage.isSome, fault := none, cycleClock := 0,
      instrAddr := 0x0000, cost := 0 }
  timer := { divCounter := 0, div := 0x00, timaCounter := 0, tima := 0x00, tma := 0x00, tac := 0x00 }
  mem := []
  extRam := []
  bank := { romBank := 1, ramEnable := false, mode := 0, outOfRangeReports := 0 }
  ppu := Ppu.reset
  apu := Apu.reset p.noiseReseed
  p1 := 0xC0
  plat := p

/-- The platform of `State.reset`: a 32 KiB cartridge of zero bytes without a controller, no boot image, no button pressed and
the default noise reseed (spec/95_test_vectors.md section 0; DESIGN CHOICE, log entry 1). -/
def Platform.default : Platform where
  cart := { kind := .noController, rom := [], romSize := 0x8000, bankCount := 2, ramSize := 0 }
  bootImage := none
  input := 0x00
  noiseReseed := Config.noiseReseedDefault

/-- The state right after reset (R25). -/
def State.reset : State := State.resetOn Platform.default

end Sys2Proof.Machine
end

