-- ==== Sys2Proof/Machine/Memory.lean ====
section
/-! DEFINITION. Sparse memories: reading and writing one byte, and the canonical form (addresses strictly rising, no entry equal
to what an unlisted address reads as), so that equal memories are equal lists. -/

namespace Sys2Proof.Machine

/-- The byte at an address: the first pair that names it, else the unlisted byte. -/
def Memory.read : Memory → Nat → Byte
  | [], _ => Config.unlistedByte
  | (k, v) :: m, a => if k = a then v else Memory.read m a

/-- A memory without the address. -/
def Memory.erase (m : Memory) (a : Nat) : Memory :=
  m.filter (fun c => decide (c.1 ≠ a))

/-- Put a pair before the first higher address. -/
def Memory.insert : Memory → Nat → Byte → Memory
  | [], a, v => [(a, v)]
  | (k, w) :: m, a, v => if a < k then (a, v) :: (k, w) :: m else (k, w) :: Memory.insert m a v

/-- Store a byte, keeping the canonical form: storing the unlisted byte removes the entry. -/
def Memory.write (m : Memory) (a : Nat) (v : Byte) : Memory :=
  if v = Config.unlistedByte then Memory.erase m a else Memory.insert (Memory.erase m a) a v

/-- Every address of the list is above `a`, rising strictly, and no entry holds the unlisted byte. -/
def Memory.wfAbove : Nat → Memory → Bool
  | _, [] => true
  | lo, (k, v) :: m => decide (lo ≤ k) && decide (v ≠ Config.unlistedByte) && Memory.wfAbove (k + 1) m

/-- The canonical form. -/
def Memory.wf (m : Memory) : Bool := Memory.wfAbove 0 m

end Sys2Proof.Machine
end

