-- ==== Sys2Proof/Machine/Apu.lean ====
section
/-! DEFINITION. The APU (spec/55_apu.md): register access, trigger and restart, the sequencer with its length, sweep and envelope
clocks, the four generators, and the mixer. Channels carry the document's numbers 0 to 3. -/

namespace Sys2Proof.Machine

/-- A channel's number (R23). -/
def Chan.index : Chan → Nat
  | .ch0 => 0
  | .ch1 => 1
  | .ch2 => 2
  | .ch3 => 3

/-- `ch[k]` (R23). -/
def Apu.ch (a : Apu) : Chan → Channel
  | .ch0 => a.ch0
  | .ch1 => a.ch1
  | .ch2 => a.ch2
  | .ch3 => a.ch3

/-- `ch[k] <- c`. -/
def Apu.setCh (a : Apu) (k : Chan) (c : Channel) : Apu :=
  match k with
  | .ch0 => { a with ch0 := c }
  | .ch1 => { a with ch1 := c }
  | .ch2 => { a with ch2 := c }
  | .ch3 => { a with ch3 := c }

/-- The stored byte of the sound register at 0xFF10 + i (R364). -/
def Apu.reg (a : Apu) (i : Nat) : Byte := a.regs[i]?.getD 0

/-- `NRk<i>`: register i (0 to 4) of channel k; the five registers of channel k start at 0xFF10 + 5k (R24). -/
def Apu.nr (a : Apu) (k : Chan) (i : Nat) : Byte := a.reg (5 * k.index + i)

/-- NR10, 0xFF10: the sweep register of channel 0 (R24). -/
def Apu.nr10 (a : Apu) : Byte := a.reg 0
/-- NR30, 0xFF1A: the wave channel's output enable (R24). -/
def Apu.nr30 (a : Apu) : Byte := a.reg 10
/-- NR32, 0xFF1C: the wave channel's output level (R24). -/
def Apu.nr32 (a : Apu) : Byte := a.reg 12
/-- NR43, 0xFF22: the noise clock (R24). -/
def Apu.nr43 (a : Apu) : Byte := a.reg 18
/-- NR50, 0xFF24: the master volumes (R24). -/
def Apu.nr50 (a : Apu) : Byte := a.reg 20
/-- NR51, 0xFF25: the output routing (R24). -/
def Apu.nr51 (a : Apu) : Byte := a.reg 21

/-- NR52 bit 7: sound power (R366). -/
def Apu.power (a : Apu) : Bool := a.nr52.getLsbD 7

/-! ### Register access (R364, R366, R374) -/

/-- `Trigger(k)` (R374): the volume is copied at once, the channel becomes active and a restart is pending. -/
def Apu.trigger (a : Apu) (k : Chan) : Apu :=
  let c := a.ch k
  let volume := if k = .ch2 then c.volume else (a.nr k 2).extractLsb' 4 4
  a.setCh k { c with volume := volume, active := true, restart := true }

/-- A write to a length register loads the length counter: 64 minus the 6-bit field, 256 minus the byte for channel 2 (R364,
R376). -/
def Apu.loadLength (a : Apu) (k : Chan) (v : Byte) : Apu :=
  a.setCh k { a.ch k with length := if k = .ch2 then 256 - v.toNat else 64 - v.toNat % 64 }

/-- A write to a frequency-low register: `freq[7:0] <- v` (R364). -/
def Apu.writeFreqLow (a : Apu) (k : Chan) (v : Byte) : Apu :=
  a.setCh k { a.ch k with freq := (a.ch k).freq.extractLsb' 8 3 ++ v }

/-- A write to a pulse or wave control register: `freq[10:8] <- v[2:0]`, then the trigger when bit 7 is set (R364). -/
def Apu.writeControl (a : Apu) (k : Chan) (v : Byte) : Apu :=
  let b := a.setCh k { a.ch k with freq := v.extractLsb' 0 3 ++ (a.ch k).freq.extractLsb' 0 8 }
  if v.getLsbD 7 then b.trigger k else b

/-- What a write to 0xFF10 + i does beside storing the byte (R364). -/
def Apu.registerEffect (a : Apu) (i : Nat) (v : Byte) : Apu :=
  match i with
  | 1 => a.loadLength .ch0 v
  | 6 => a.loadLength .ch1 v
  | 11 => a.loadLength .ch2 v
  | 16 => a.loadLength .ch3 v
  | 3 => a.writeFreqLow .ch0 v
  | 8 => a.writeFreqLow .ch1 v
  | 13 => a.writeFreqLow .ch2 v
  | 4 => a.writeControl .ch0 v
  | 9 => a.writeControl .ch1 v
  | 14 => a.writeControl .ch2 v
  | 19 => if v.getLsbD 7 then a.trigger .ch3 else a
  | _ => a

/-- A write to 0xFF10 + i: lost while the sound power is off (R364, R366). -/
def Apu.writeReg (a : Apu) (i : Nat) (v : Byte) : Apu :=
  if a.power then Apu.registerEffect { a with regs := a.regs.setIfInBounds i v } i v else a

/-- Every channel inactive with no restart pending: what switching the power off does (R366, decision D53). -/
def Apu.silence (a : Apu) : Apu :=
  { a with
    ch0 := { a.ch0 with active := false, restart := false }
    ch1 := { a.ch1 with active := false, restart := false }
    ch2 := { a.ch2 with active := false, restart := false }
    ch3 := { a.ch3 with active := false, restart := false } }

/-- A write to NR52: bits 7:4 are stored; switching off silences, switching on restarts the sequencer (R366). -/
def Apu.writeNr52 (a : Apu) (v : Byte) : Apu :=
  let b := { a with nr52 := v &&& 0xF0 }
  if a.power && !v.getLsbD 7 then b.silence
  else if !a.power && v.getLsbD 7 then { b with seqCounter := 0, seqStep := 0 }
  else b

/-- A read of NR52: the stored bits 7:4 and the four channel-active bits (R366). -/
def Apu.readNr52 (a : Apu) : Byte :=
  a.nr52.extractLsb' 4 4 ++ BitVec.ofBool a.ch3.active ++ BitVec.ofBool a.ch2.active ++ BitVec.ofBool a.ch1.active ++
    BitVec.ofBool a.ch0.active

/-! ### Restart, sequencer (R375 to R380) -/

/-- `Restart(k)` (R375), with the OPEN parameter `NOISE_RESEED`. -/
def Apu.restartChannel (reseed : BitVec 15) (a : Apu) (k : Chan) : Apu :=
  let c := a.ch k
  let env := a.nr k 2
  a.setCh k
    { c with
      restart := false
      freqTimer := 0
      phase := if k = .ch3 then c.phase else 0
      envPeriod := if k = .ch2 then c.envPeriod else env.extractLsb' 0 3
      envDir := if k = .ch2 then c.envDir else env.getLsbD 3
      envTimer := if k = .ch2 then c.envTimer else 0
      length := if c.length = 0 then (if k = .ch2 then 256 else 64) else c.length
      sweepTimer := if k = .ch0 then 0 else c.sweepTimer
      lfsr := if k = .ch3 then reseed else c.lfsr }

/-- Consume a pending restart (R368). -/
def Apu.restartIfPending (reseed : BitVec 15) (a : Apu) (k : Chan) : Apu :=
  if (a.ch k).restart then a.restartChannel reseed k else a

/-- The length clock of a channel (R376); bit 6 of the stored NRk4 enables it. -/
def Apu.lengthClock (a : Apu) (k : Chan) : Apu :=
  let c := a.ch k
  if (a.nr k 4).getLsbD 6 ∧ 0 < c.length then
    a.setCh k { c with length := c.length - 1, active := if c.length - 1 = 0 then false else c.active }
  else a

/-- The envelope clock of channels 0, 1 and 3: one step per period, clamped to 0..15 (R378). -/
def Apu.envelopeClock (a : Apu) (k : Chan) : Apu :=
  let c := a.ch k
  if c.active ∧ c.envPeriod ≠ 0 then
    if c.envPeriod.toNat ≤ c.envTimer + 1 then
      let volume :=
        if c.envDir ∧ c.volume.toNat < 15 then c.volume + 1
        else if ¬c.envDir ∧ 0 < c.volume.toNat then c.volume - 1
        else c.volume
      a.setCh k { c with envTimer := 0, volume := volume }
    else a.setCh k { c with envTimer := c.envTimer + 1 }
  else a

/-- The sweep clock of channel 0: frequency plus or minus itself shifted; a result above 2047 disables the channel (R380). -/
def Apu.sweepClock (a : Apu) : Apu :=
  let c := a.ch0
  let period := (a.nr10.extractLsb' 4 3).toNat
  if c.active ∧ period ≠ 0 then
    if period ≤ c.sweepTimer + 1 then
      let d := c.freq.toNat / 2 ^ (a.nr10.extractLsb' 0 3).toNat
      let new := if a.nr10.getLsbD 3 then c.freq.toNat - d else c.freq.toNat + d
      if 2047 < new then { a with ch0 := { c with sweepTimer := 0, active := false } }
      else { a with ch0 := { c with sweepTimer := 0, freq := BitVec.ofNat 11 new } }
    else { a with ch0 := { c with sweepTimer := c.sweepTimer + 1 } }
  else a

/-- `SeqStep()`: the clocks of the current step in the order length, sweep, envelope, then the next step (R370). -/
def Apu.seqStepClock (a : Apu) : Apu :=
  let a1 :=
    if a.seqStep % 2 = 0 then (((a.lengthClock .ch0).lengthClock .ch1).lengthClock .ch2).lengthClock .ch3 else a
  let a2 := if a.seqStep = 2 ∨ a.seqStep = 6 then a1.sweepClock else a1
  let a3 :=
    if a.seqStep = 7 then ((a2.envelopeClock .ch0).envelopeClock .ch1).envelopeClock .ch3 else a2
  { a3 with seqStep := (a.seqStep + 1) % 8 }

/-! ### Generators (R372, R384, R388) -/

/-- `DIVISOR[r]` (R388). -/
def noiseDivisor (r : BitVec 3) : Nat :=
  match r.toNat with
  | 0 => 8
  | 1 => 16
  | 2 => 32
  | 3 => 48
  | 4 => 64
  | 5 => 80
  | 6 => 96
  | _ => 112

/-- `Period(k)` in cycles per waveform step (R372, R384, R388). -/
def Apu.period (a : Apu) (k : Chan) : Nat :=
  match k with
  | .ch0 => 4 * (2048 - a.ch0.freq.toNat)
  | .ch1 => 4 * (2048 - a.ch1.freq.toNat)
  | .ch2 => 2 * (2048 - a.ch2.freq.toNat)
  | .ch3 => noiseDivisor (a.nr43.extractLsb' 0 3) * 2 ^ (a.nr43.extractLsb' 4 4).toNat

/-- One clock of the noise shift register; `narrow` is the 7-bit counter width (R388). -/
def lfsrClock (narrow : Bool) (lfsr : BitVec 15) : BitVec 15 :=
  let x := lfsr.getLsbD 0 ^^ lfsr.getLsbD 1
  let shifted := (lfsr >>> 1) ||| (if x then 0x4000 else 0)
  if narrow then (shifted &&& ~~~0x0040) ||| (if x then 0x0040 else 0) else shifted

/-- `WaveStep(k)` (R372, R384, R388). -/
def Apu.waveStep (a : Apu) (k : Chan) (c : Channel) : Channel :=
  match k with
  | .ch0 | .ch1 => { c with phase := (c.phase + 1) % 8 }
  | .ch2 => { c with phase := (c.phase + 1) % 32 }
  | .ch3 => { c with lfsr := lfsrClock (a.nr43.getLsbD 3) c.lfsr }

/-- A channel's part of `ApuTick(n)`: one waveform step per period, the rest of the cycles kept (R368). -/
def Apu.channelTick (n : Nat) (a : Apu) (k : Chan) : Apu :=
  let c := a.ch k
  if c.active then
    let t := c.freqTimer + n
    let p := a.period k
    a.setCh k (repeatN (t / p) (a.waveStep k) { c with freqTimer := t % p })
  else a

/-- The sequencer's part of `ApuTick(n)`: a step every 8192 cycles (R368, R370). -/
def Apu.sequencerTick (n : Nat) (a : Apu) : Apu :=
  let t := a.seqCounter + n
  repeatN (t / 8192) Apu.seqStepClock { a with seqCounter := t % 8192 }

/-- `ApuTick(n)` (R368): pending restarts, the sequencer, then the four generators; nothing while the power is off. -/
def apuTick (reseed : BitVec 15) (n : Nat) (a : Apu) : Apu :=
  if a.power then
    let a1 := [Chan.ch0, .ch1, .ch2, .ch3].foldl (Apu.restartIfPending reseed) a
    [Chan.ch0, .ch1, .ch2, .ch3].foldl (Apu.channelTick n) (a1.sequencerTick n)
  else a

/-! ### Output (R390, R392); the host calls the mixer, no step does -/

/-- The duty patterns, by NRk1[7:6] and phase (R372). -/
def dutyPattern (duty : BitVec 2) : List Bool :=
  match duty.toNat with
  | 0 => [false, false, false, false, false, false, false, true]
  | 1 => [true, false, false, false, false, false, false, true]
  | 2 => [true, false, false, false, false, true, true, true]
  | _ => [false, true, true, true, true, true, true, false]

/-- Sample `j` of wave memory: two samples per byte, high nibble first (R365). -/
def waveSample (m : Memory) (j : Nat) : Nat :=
  let v := (Memory.read m (0xFF30 + j / 2)).toNat
  if j % 2 = 0 then v / 16 else v % 16

/-- `out[k]` (R390). -/
def Apu.out (a : Apu) (m : Memory) (k : Chan) : Int :=
  let c := a.ch k
  let v : Int := c.volume.toNat
  if !c.active then 0
  else
    match k with
    | .ch0 | .ch1 => if (dutyPattern ((a.nr k 1).extractLsb' 6 2))[c.phase]?.getD false then v else -v
    | .ch2 =>
      let level := (a.nr32.extractLsb' 5 2).toNat
      if !a.nr30.getLsbD 7 || level == 0 then 0 else (waveSample m c.phase / 2 ^ (level - 1) : Nat)
    | .ch3 => if c.lfsr.getLsbD 0 then -v else v

/-- One side of the mix: the routed channels' sum times the level plus one (R392). -/
def Apu.mixSide (a : Apu) (m : Memory) (routeBit : Nat) (level : BitVec 3) : Int :=
  (([Chan.ch0, .ch1, .ch2, .ch3].map
    (fun k => if a.nr51.getLsbD (routeBit + k.index) then a.out m k else 0)).sum) * (level.toNat + 1 : Nat)

/-- `Mix()`: the pair (left, right), silence while the power is off (R392). -/
def Apu.mix (a : Apu) (m : Memory) : Int × Int :=
  if a.power then
    (a.mixSide m 4 (a.nr50.extractLsb' 4 3), a.mixSide m 0 (a.nr50.extractLsb' 0 3))
  else (0, 0)

end Sys2Proof.Machine
end

