-- ==== Sys2Proof/Syntax.lean ====
section
/-! DEFINITION. The instruction set as syntax: one constructor per row of spec/opcode_table.json (R96, R97), 512 of them,
each with the immediate its format fetches (R90), and the operand names the meanings share (R10, R11, R214, R250). -/

namespace Sys2Proof

/-- The seven 8-bit registers an instruction's 3-bit register field can name (R10); index 6 is the byte at HL and never a
register. -/
inductive Reg8 where
  | b | c | d | e | h | l | a
deriving DecidableEq, Repr

/-- The `rr` pair field of loads and 16-bit arithmetic (R11). -/
inductive Pair where
  | bc | de | hl | sp
deriving DecidableEq, Repr

/-- The `qq` pair field of PUSH and POP (R11). -/
inductive StackPair where
  | bc | de | hl | af
deriving DecidableEq, Repr

/-- The condition field `cc` (R250). -/
inductive Cond where
  | nz | z | nc | c
deriving DecidableEq, Repr

/-- The ALU operation field `aaa` (spec/42_alu8.md, operand forms). -/
inductive AluOp where
  | add | adc | sub | sbc | and | xor | or | cp
deriving DecidableEq, Repr

/-- The rotate and shift field `y` of the prefixed table's first quarter (R214, R215). -/
inductive RotOp where
  | rlc | rrc | rl | rr | sla | sra | swap | srl
deriving DecidableEq, Repr

/-- One constructor per row of spec/opcode_table.json. A name follows the row's mnemonic: `Ind` marks an operand in
parentheses (`ldBIndHL` is `LD B,(HL)`), `N` an immediate byte, `Nn` an immediate word, `E` a signed displacement byte. The
rows with an immediate stand first (Lean gives a constructor with fields a small tag only), then the rest in the table's order. -/
inductive Instr where
  /-- `LD BC,nn`, 01 nn[7:0] nn[15:8] (R140). -/
  | ldBCNn (nn : Word)
  /-- `LD B,n`, 06 n (R111). -/
  | ldBN (n : Byte)
  /-- `LD (nn),SP`, 08 nn[7:0] nn[15:8] (R141). -/
  | ldIndNnSP (nn : Word)
  /-- `LD C,n`, 0E n (R111). -/
  | ldCN (n : Byte)
  /-- `STOP`, 10 n (R272). -/
  | stop (n : Byte)
  /-- `LD DE,nn`, 11 nn[7:0] nn[15:8] (R140). -/
  | ldDENn (nn : Word)
  /-- `LD D,n`, 16 n (R111). -/
  | ldDN (n : Byte)
  /-- `JR e`, 18 e (R254). -/
  | jrE (e : Byte)
  /-- `LD E,n`, 1E n (R111). -/
  | ldEN (n : Byte)
  /-- `JR NZ,e`, 20 e (R255). -/
  | jrNZE (e : Byte)
  /-- `LD HL,nn`, 21 nn[7:0] nn[15:8] (R140). -/
  | ldHLNn (nn : Word)
  /-- `LD H,n`, 26 n (R111). -/
  | ldHN (n : Byte)
  /-- `JR Z,e`, 28 e (R255). -/
  | jrZE (e : Byte)
  /-- `LD L,n`, 2E n (R111). -/
  | ldLN (n : Byte)
  /-- `JR NC,e`, 30 e (R255). -/
  | jrNCE (e : Byte)
  /-- `LD SP,nn`, 31 nn[7:0] nn[15:8] (R140). -/
  | ldSPNn (nn : Word)
  /-- `LD (HL),n`, 36 n (R114). -/
  | ldIndHLN (n : Byte)
  /-- `JR C,e`, 38 e (R255). -/
  | jrCE (e : Byte)
  /-- `LD A,n`, 3E n (R111). -/
  | ldAN (n : Byte)
  /-- `JP NZ,nn`, C2 nn[7:0] nn[15:8] (R252). -/
  | jpNZNn (nn : Word)
  /-- `JP nn`, C3 nn[7:0] nn[15:8] (R251). -/
  | jpNn (nn : Word)
  /-- `CALL NZ,nn`, C4 nn[7:0] nn[15:8] (R257). -/
  | callNZNn (nn : Word)
  /-- `ADD A,n`, C6 n (R163). -/
  | addAN (n : Byte)
  /-- `JP Z,nn`, CA nn[7:0] nn[15:8] (R252). -/
  | jpZNn (nn : Word)
  /-- `CALL Z,nn`, CC nn[7:0] nn[15:8] (R257). -/
  | callZNn (nn : Word)
  /-- `CALL nn`, CD nn[7:0] nn[15:8] (R256). -/
  | callNn (nn : Word)
  /-- `ADC A,n`, CE n (R166). -/
  | adcAN (n : Byte)
  /-- `JP NC,nn`, D2 nn[7:0] nn[15:8] (R252). -/
  | jpNCNn (nn : Word)
  /-- `CALL NC,nn`, D4 nn[7:0] nn[15:8] (R257). -/
  | callNCNn (nn : Word)
  /-- `SUB n`, D6 n (R169). -/
  | subN (n : Byte)
  /-- `JP C,nn`, DA nn[7:0] nn[15:8] (R252). -/
  | jpCNn (nn : Word)
  /-- `CALL C,nn`, DC nn[7:0] nn[15:8] (R257). -/
  | callCNn (nn : Word)
  /-- `SBC A,n`, DE n (R172). -/
  | sbcAN (n : Byte)
  /-- `LDH (n),A`, E0 n (R124). -/
  | ldhNA (n : Byte)
  /-- `AND n`, E6 n (R175). -/
  | andN (n : Byte)
  /-- `ADD SP,e`, E8 e (R203). -/
  | addSPE (e : Byte)
  /-- `LD (nn),A`, EA nn[7:0] nn[15:8] (R120). -/
  | ldIndNnA (nn : Word)
  /-- `XOR n`, EE n (R178). -/
  | xorN (n : Byte)
  /-- `LDH A,(n)`, F0 n (R123). -/
  | ldhAN (n : Byte)
  /-- `OR n`, F6 n (R181). -/
  | orN (n : Byte)
  /-- `LD HL,SP+e`, F8 e (R143). -/
  | ldHLSPE (e : Byte)
  /-- `LD A,(nn)`, FA nn[7:0] nn[15:8] (R119). -/
  | ldAIndNn (nn : Word)
  /-- `CP n`, FE n (R184). -/
  | cpN (n : Byte)
  /-- `NOP`, 00 (R270). -/
  | nop
  /-- `LD (BC),A`, 02 (R117). -/
  | ldIndBCA
  /-- `INC BC`, 03 (R201). -/
  | incBC
  /-- `INC B`, 04 (R185). -/
  | incB
  /-- `DEC B`, 05 (R187). -/
  | decB
  /-- `RLCA`, 07 (R210). -/
  | rlca
  /-- `ADD HL,BC`, 09 (R200). -/
  | addHLBC
  /-- `LD A,(BC)`, 0A (R115). -/
  | ldAIndBC
  /-- `DEC BC`, 0B (R202). -/
  | decBC
  /-- `INC C`, 0C (R185). -/
  | incC
  /-- `DEC C`, 0D (R187). -/
  | decC
  /-- `RRCA`, 0F (R211). -/
  | rrca
  /-- `LD (DE),A`, 12 (R118). -/
  | ldIndDEA
  /-- `INC DE`, 13 (R201). -/
  | incDE
  /-- `INC D`, 14 (R185). -/
  | incD
  /-- `DEC D`, 15 (R187). -/
  | decD
  /-- `RLA`, 17 (R212). -/
  | rla
  /-- `ADD HL,DE`, 19 (R200). -/
  | addHLDE
  /-- `LD A,(DE)`, 1A (R116). -/
  | ldAIndDE
  /-- `DEC DE`, 1B (R202). -/
  | decDE
  /-- `INC E`, 1C (R185). -/
  | incE
  /-- `DEC E`, 1D (R187). -/
  | decE
  /-- `RRA`, 1F (R213). -/
  | rra
  /-- `LD (HL+),A`, 22 (R127). -/
  | ldIndHLIncA
  /-- `INC HL`, 23 (R201). -/
  | incHL
  /-- `INC H`, 24 (R185). -/
  | incH
  /-- `DEC H`, 25 (R187). -/
  | decH
  /-- `DAA`, 27 (R189). -/
  | daa
  /-- `ADD HL,HL`, 29 (R200). -/
  | addHLHL
  /-- `LD A,(HL+)`, 2A (R125). -/
  | ldAIndHLInc
  /-- `DEC HL`, 2B (R202). -/
  | decHL
  /-- `INC L`, 2C (R185). -/
  | incL
  /-- `DEC L`, 2D (R187). -/
  | decL
  /-- `CPL`, 2F (R190). -/
  | cpl
  /-- `LD (HL-),A`, 32 (R128). -/
  | ldIndHLDecA
  /-- `INC SP`, 33 (R201). -/
  | incSP
  /-- `INC (HL)`, 34 (R186). -/
  | incIndHL
  /-- `DEC (HL)`, 35 (R188). -/
  | decIndHL
  /-- `SCF`, 37 (R191). -/
  | scf
  /-- `ADD HL,SP`, 39 (R200). -/
  | addHLSP
  /-- `LD A,(HL-)`, 3A (R126). -/
  | ldAIndHLDec
  /-- `DEC SP`, 3B (R202). -/
  | decSP
  /-- `INC A`, 3C (R185). -/
  | incA
  /-- `DEC A`, 3D (R187). -/
  | decA
  /-- `CCF`, 3F (R192). -/
  | ccf
  /-- `LD B,B`, 40 (R110). -/
  | ldBB
  /-- `LD B,C`, 41 (R110). -/
  | ldBC
  /-- `LD B,D`, 42 (R110). -/
  | ldBD
  /-- `LD B,E`, 43 (R110). -/
  | ldBE
  /-- `LD B,H`, 44 (R110). -/
  | ldBH
  /-- `LD B,L`, 45 (R110). -/
  | ldBL
  /-- `LD B,(HL)`, 46 (R112). -/
  | ldBIndHL
  /-- `LD B,A`, 47 (R110). -/
  | ldBA
  /-- `LD C,B`, 48 (R110). -/
  | ldCB
  /-- `LD C,C`, 49 (R110). -/
  | ldCC
  /-- `LD C,D`, 4A (R110). -/
  | ldCD
  /-- `LD C,E`, 4B (R110). -/
  | ldCE
  /-- `LD C,H`, 4C (R110). -/
  | ldCH
  /-- `LD C,L`, 4D (R110). -/
  | ldCL
  /-- `LD C,(HL)`, 4E (R112). -/
  | ldCIndHL
  /-- `LD C,A`, 4F (R110). -/
  | ldCA
  /-- `LD D,B`, 50 (R110). -/
  | ldDB
  /-- `LD D,C`, 51 (R110). -/
  | ldDC
  /-- `LD D,D`, 52 (R110). -/
  | ldDD
  /-- `LD D,E`, 53 (R110). -/
  | ldDE
  /-- `LD D,H`, 54 (R110). -/
  | ldDH
  /-- `LD D,L`, 55 (R110). -/
  | ldDL
  /-- `LD D,(HL)`, 56 (R112). -/
  | ldDIndHL
  /-- `LD D,A`, 57 (R110). -/
  | ldDA
  /-- `LD E,B`, 58 (R110). -/
  | ldEB
  /-- `LD E,C`, 59 (R110). -/
  | ldEC
  /-- `LD E,D`, 5A (R110). -/
  | ldED
  /-- `LD E,E`, 5B (R110). -/
  | ldEE
  /-- `LD E,H`, 5C (R110). -/
  | ldEH
  /-- `LD E,L`, 5D (R110). -/
  | ldEL
  /-- `LD E,(HL)`, 5E (R112). -/
  | ldEIndHL
  /-- `LD E,A`, 5F (R110). -/
  | ldEA
  /-- `LD H,B`, 60 (R110). -/
  | ldHB
  /-- `LD H,C`, 61 (R110). -/
  | ldHC
  /-- `LD H,D`, 62 (R110). -/
  | ldHD
  /-- `LD H,E`, 63 (R110). -/
  | ldHE
  /-- `LD H,H`, 64 (R110). -/
  | ldHH
  /-- `LD H,L`, 65 (R110). -/
  | ldHL
  /-- `LD H,(HL)`, 66 (R112). -/
  | ldHIndHL
  /-- `LD H,A`, 67 (R110). -/
  | ldHA
  /-- `LD L,B`, 68 (R110). -/
  | ldLB
  /-- `LD L,C`, 69 (R110). -/
  | ldLC
  /-- `LD L,D`, 6A (R110). -/
  | ldLD
  /-- `LD L,E`, 6B (R110). -/
  | ldLE
  /-- `LD L,H`, 6C (R110). -/
  | ldLH
  /-- `LD L,L`, 6D (R110). -/
  | ldLL
  /-- `LD L,(HL)`, 6E (R112). -/
  | ldLIndHL
  /-- `LD L,A`, 6F (R110). -/
  | ldLA
  /-- `LD (HL),B`, 70 (R113). -/
  | ldIndHLB
  /-- `LD (HL),C`, 71 (R113). -/
  | ldIndHLC
  /-- `LD (HL),D`, 72 (R113). -/
  | ldIndHLD
  /-- `LD (HL),E`, 73 (R113). -/
  | ldIndHLE
  /-- `LD (HL),H`, 74 (R113). -/
  | ldIndHLH
  /-- `LD (HL),L`, 75 (R113). -/
  | ldIndHLL
  /-- `HALT`, 76 (R271). -/
  | halt
  /-- `LD (HL),A`, 77 (R113). -/
  | ldIndHLA
  /-- `LD A,B`, 78 (R110). -/
  | ldAB
  /-- `LD A,C`, 79 (R110). -/
  | ldAC
  /-- `LD A,D`, 7A (R110). -/
  | ldAD
  /-- `LD A,E`, 7B (R110). -/
  | ldAE
  /-- `LD A,H`, 7C (R110). -/
  | ldAH
  /-- `LD A,L`, 7D (R110). -/
  | ldAL
  /-- `LD A,(HL)`, 7E (R112). -/
  | ldAIndHL
  /-- `LD A,A`, 7F (R110). -/
  | ldAA
  /-- `ADD A,B`, 80 (R161). -/
  | addAB
  /-- `ADD A,C`, 81 (R161). -/
  | addAC
  /-- `ADD A,D`, 82 (R161). -/
  | addAD
  /-- `ADD A,E`, 83 (R161). -/
  | addAE
  /-- `ADD A,H`, 84 (R161). -/
  | addAH
  /-- `ADD A,L`, 85 (R161). -/
  | addAL
  /-- `ADD A,(HL)`, 86 (R162). -/
  | addAIndHL
  /-- `ADD A,A`, 87 (R161). -/
  | addAA
  /-- `ADC A,B`, 88 (R164). -/
  | adcAB
  /-- `ADC A,C`, 89 (R164). -/
  | adcAC
  /-- `ADC A,D`, 8A (R164). -/
  | adcAD
  /-- `ADC A,E`, 8B (R164). -/
  | adcAE
  /-- `ADC A,H`, 8C (R164). -/
  | adcAH
  /-- `ADC A,L`, 8D (R164). -/
  | adcAL
  /-- `ADC A,(HL)`, 8E (R165). -/
  | adcAIndHL
  /-- `ADC A,A`, 8F (R164). -/
  | adcAA
  /-- `SUB B`, 90 (R167). -/
  | subB
  /-- `SUB C`, 91 (R167). -/
  | subC
  /-- `SUB D`, 92 (R167). -/
  | subD
  /-- `SUB E`, 93 (R167). -/
  | subE
  /-- `SUB H`, 94 (R167). -/
  | subH
  /-- `SUB L`, 95 (R167). -/
  | subL
  /-- `SUB (HL)`, 96 (R168). -/
  | subIndHL
  /-- `SUB A`, 97 (R167). -/
  | subA
  /-- `SBC A,B`, 98 (R170). -/
  | sbcAB
  /-- `SBC A,C`, 99 (R170). -/
  | sbcAC
  /-- `SBC A,D`, 9A (R170). -/
  | sbcAD
  /-- `SBC A,E`, 9B (R170). -/
  | sbcAE
  /-- `SBC A,H`, 9C (R170). -/
  | sbcAH
  /-- `SBC A,L`, 9D (R170). -/
  | sbcAL
  /-- `SBC A,(HL)`, 9E (R171). -/
  | sbcAIndHL
  /-- `SBC A,A`, 9F (R170). -/
  | sbcAA
  /-- `AND B`, A0 (R173). -/
  | andB
  /-- `AND C`, A1 (R173). -/
  | andC
  /-- `AND D`, A2 (R173). -/
  | andD
  /-- `AND E`, A3 (R173). -/
  | andE
  /-- `AND H`, A4 (R173). -/
  | andH
  /-- `AND L`, A5 (R173). -/
  | andL
  /-- `AND (HL)`, A6 (R174). -/
  | andIndHL
  /-- `AND A`, A7 (R173). -/
  | andA
  /-- `XOR B`, A8 (R176). -/
  | xorB
  /-- `XOR C`, A9 (R176). -/
  | xorC
  /-- `XOR D`, AA (R176). -/
  | xorD
  /-- `XOR E`, AB (R176). -/
  | xorE
  /-- `XOR H`, AC (R176). -/
  | xorH
  /-- `XOR L`, AD (R176). -/
  | xorL
  /-- `XOR (HL)`, AE (R177). -/
  | xorIndHL
  /-- `XOR A`, AF (R176). -/
  | xorA
  /-- `OR B`, B0 (R179). -/
  | orB
  /-- `OR C`, B1 (R179). -/
  | orC
  /-- `OR D`, B2 (R179). -/
  | orD
  /-- `OR E`, B3 (R179). -/
  | orE
  /-- `OR H`, B4 (R179). -/
  | orH
  /-- `OR L`, B5 (R179). -/
  | orL
  /-- `OR (HL)`, B6 (R180). -/
  | orIndHL
  /-- `OR A`, B7 (R179). -/
  | orA
  /-- `CP B`, B8 (R182). -/
  | cpB
  /-- `CP C`, B9 (R182). -/
  | cpC
  /-- `CP D`, BA (R182). -/
  | cpD
  /-- `CP E`, BB (R182). -/
  | cpE
  /-- `CP H`, BC (R182). -/
  | cpH
  /-- `CP L`, BD (R182). -/
  | cpL
  /-- `CP (HL)`, BE (R183). -/
  | cpIndHL
  /-- `CP A`, BF (R182). -/
  | cpA
  /-- `RET NZ`, C0 (R259). -/
  | retNZ
  /-- `POP BC`, C1 (R145). -/
  | popBC
  /-- `PUSH BC`, C5 (R144). -/
  | pushBC
  /-- `RST 0x00`, C7 (R262). -/
  | rst00
  /-- `RET Z`, C8 (R259). -/
  | retZ
  /-- `RET`, C9 (R258). -/
  | ret
  /-- `PREFIX CB: the prefix byte, whose second byte selects the prefixed instruction`, CB (R275). -/
  | prefixCB
  /-- `RST 0x08`, CF (R262). -/
  | rst08
  /-- `RET NC`, D0 (R259). -/
  | retNC
  /-- `POP DE`, D1 (R145). -/
  | popDE
  /-- `no instruction`, D3 (R276). -/
  | unimplD3
  /-- `PUSH DE`, D5 (R144). -/
  | pushDE
  /-- `RST 0x10`, D7 (R262). -/
  | rst10
  /-- `RET C`, D8 (R259). -/
  | retC
  /-- `RETI`, D9 (R260). -/
  | reti
  /-- `no instruction`, DB (R276). -/
  | unimplDB
  /-- `no instruction`, DD (R276). -/
  | unimplDD
  /-- `RST 0x18`, DF (R262). -/
  | rst18
  /-- `POP HL`, E1 (R145). -/
  | popHL
  /-- `LDH (C),A`, E2 (R122). -/
  | ldhCA
  /-- `no instruction`, E3 (R276). -/
  | unimplE3
  /-- `no instruction`, E4 (R276). -/
  | unimplE4
  /-- `PUSH HL`, E5 (R144). -/
  | pushHL
  /-- `RST 0x20`, E7 (R262). -/
  | rst20
  /-- `JP HL`, E9 (R253). -/
  | jpHL
  /-- `no instruction`, EB (R276). -/
  | unimplEB
  /-- `no instruction`, EC (R276). -/
  | unimplEC
  /-- `no instruction`, ED (R276). -/
  | unimplED
  /-- `RST 0x28`, EF (R262). -/
  | rst28
  /-- `POP AF`, F1 (R145). -/
  | popAF
  /-- `LDH A,(C)`, F2 (R121). -/
  | ldhAC
  /-- `DI`, F3 (R273). -/
  | di
  /-- `no instruction`, F4 (R276). -/
  | unimplF4
  /-- `PUSH AF`, F5 (R144). -/
  | pushAF
  /-- `RST 0x30`, F7 (R262). -/
  | rst30
  /-- `LD SP,HL`, F9 (R142). -/
  | ldSPHL
  /-- `EI`, FB (R274). -/
  | ei
  /-- `no instruction`, FC (R276). -/
  | unimplFC
  /-- `no instruction`, FD (R276). -/
  | unimplFD
  /-- `RST 0x38`, FF (R262). -/
  | rst38
  /-- `RLC B`, CB 00 (R216). -/
  | rlcB
  /-- `RLC C`, CB 01 (R216). -/
  | rlcC
  /-- `RLC D`, CB 02 (R216). -/
  | rlcD
  /-- `RLC E`, CB 03 (R216). -/
  | rlcE
  /-- `RLC H`, CB 04 (R216). -/
  | rlcH
  /-- `RLC L`, CB 05 (R216). -/
  | rlcL
  /-- `RLC (HL)`, CB 06 (R217). -/
  | rlcIndHL
  /-- `RLC A`, CB 07 (R216). -/
  | rlcA
  /-- `RRC B`, CB 08 (R218). -/
  | rrcB
  /-- `RRC C`, CB 09 (R218). -/
  | rrcC
  /-- `RRC D`, CB 0A (R218). -/
  | rrcD
  /-- `RRC E`, CB 0B (R218). -/
  | rrcE
  /-- `RRC H`, CB 0C (R218). -/
  | rrcH
  /-- `RRC L`, CB 0D (R218). -/
  | rrcL
  /-- `RRC (HL)`, CB 0E (R219). -/
  | rrcIndHL
  /-- `RRC A`, CB 0F (R218). -/
  | rrcA
  /-- `RL B`, CB 10 (R220). -/
  | rlB
  /-- `RL C`, CB 11 (R220). -/
  | rlC
  /-- `RL D`, CB 12 (R220). -/
  | rlD
  /-- `RL E`, CB 13 (R220). -/
  | rlE
  /-- `RL H`, CB 14 (R220). -/
  | rlH
  /-- `RL L`, CB 15 (R220). -/
  | rlL
  /-- `RL (HL)`, CB 16 (R221). -/
  | rlIndHL
  /-- `RL A`, CB 17 (R220). -/
  | rlA
  /-- `RR B`, CB 18 (R222). -/
  | rrB
  /-- `RR C`, CB 19 (R222). -/
  | rrC
  /-- `RR D`, CB 1A (R222). -/
  | rrD
  /-- `RR E`, CB 1B (R222). -/
  | rrE
  /-- `RR H`, CB 1C (R222). -/
  | rrH
  /-- `RR L`, CB 1D (R222). -/
  | rrL
  /-- `RR (HL)`, CB 1E (R223). -/
  | rrIndHL
  /-- `RR A`, CB 1F (R222). -/
  | rrA
  /-- `SLA B`, CB 20 (R224). -/
  | slaB
  /-- `SLA C`, CB 21 (R224). -/
  | slaC
  /-- `SLA D`, CB 22 (R224). -/
  | slaD
  /-- `SLA E`, CB 23 (R224). -/
  | slaE
  /-- `SLA H`, CB 24 (R224). -/
  | slaH
  /-- `SLA L`, CB 25 (R224). -/
  | slaL
  /-- `SLA (HL)`, CB 26 (R225). -/
  | slaIndHL
  /-- `SLA A`, CB 27 (R224). -/
  | slaA
  /-- `SRA B`, CB 28 (R226). -/
  | sraB
  /-- `SRA C`, CB 29 (R226). -/
  | sraC
  /-- `SRA D`, CB 2A (R226). -/
  | sraD
  /-- `SRA E`, CB 2B (R226). -/
  | sraE
  /-- `SRA H`, CB 2C (R226). -/
  | sraH
  /-- `SRA L`, CB 2D (R226). -/
  | sraL
  /-- `SRA (HL)`, CB 2E (R227). -/
  | sraIndHL
  /-- `SRA A`, CB 2F (R226). -/
  | sraA
  /-- `SWAP B`, CB 30 (R228). -/
  | swapB
  /-- `SWAP C`, CB 31 (R228). -/
  | swapC
  /-- `SWAP D`, CB 32 (R228). -/
  | swapD
  /-- `SWAP E`, CB 33 (R228). -/
  | swapE
  /-- `SWAP H`, CB 34 (R228). -/
  | swapH
  /-- `SWAP L`, CB 35 (R228). -/
  | swapL
  /-- `SWAP (HL)`, CB 36 (R229). -/
  | swapIndHL
  /-- `SWAP A`, CB 37 (R228). -/
  | swapA
  /-- `SRL B`, CB 38 (R230). -/
  | srlB
  /-- `SRL C`, CB 39 (R230). -/
  | srlC
  /-- `SRL D`, CB 3A (R230). -/
  | srlD
  /-- `SRL E`, CB 3B (R230). -/
  | srlE
  /-- `SRL H`, CB 3C (R230). -/
  | srlH
  /-- `SRL L`, CB 3D (R230). -/
  | srlL
  /-- `SRL (HL)`, CB 3E (R231). -/
  | srlIndHL
  /-- `SRL A`, CB 3F (R230). -/
  | srlA
  /-- `BIT 0,B`, CB 40 (R232). -/
  | bit0B
  /-- `BIT 0,C`, CB 41 (R232). -/
  | bit0C
  /-- `BIT 0,D`, CB 42 (R232). -/
  | bit0D
  /-- `BIT 0,E`, CB 43 (R232). -/
  | bit0E
  /-- `BIT 0,H`, CB 44 (R232). -/
  | bit0H
  /-- `BIT 0,L`, CB 45 (R232). -/
  | bit0L
  /-- `BIT 0,(HL)`, CB 46 (R233). -/
  | bit0IndHL
  /-- `BIT 0,A`, CB 47 (R232). -/
  | bit0A
  /-- `BIT 1,B`, CB 48 (R232). -/
  | bit1B
  /-- `BIT 1,C`, CB 49 (R232). -/
  | bit1C
  /-- `BIT 1,D`, CB 4A (R232). -/
  | bit1D
  /-- `BIT 1,E`, CB 4B (R232). -/
  | bit1E
  /-- `BIT 1,H`, CB 4C (R232). -/
  | bit1H
  /-- `BIT 1,L`, CB 4D (R232). -/
  | bit1L
  /-- `BIT 1,(HL)`, CB 4E (R233). -/
  | bit1IndHL
  /-- `BIT 1,A`, CB 4F (R232). -/
  | bit1A
  /-- `BIT 2,B`, CB 50 (R232). -/
  | bit2B
  /-- `BIT 2,C`, CB 51 (R232). -/
  | bit2C
  /-- `BIT 2,D`, CB 52 (R232). -/
  | bit2D
  /-- `BIT 2,E`, CB 53 (R232). -/
  | bit2E
  /-- `BIT 2,H`, CB 54 (R232). -/
  | bit2H
  /-- `BIT 2,L`, CB 55 (R232). -/
  | bit2L
  /-- `BIT 2,(HL)`, CB 56 (R233). -/
  | bit2IndHL
  /-- `BIT 2,A`, CB 57 (R232). -/
  | bit2A
  /-- `BIT 3,B`, CB 58 (R232). -/
  | bit3B
  /-- `BIT 3,C`, CB 59 (R232). -/
  | bit3C
  /-- `BIT 3,D`, CB 5A (R232). -/
  | bit3D
  /-- `BIT 3,E`, CB 5B (R232). -/
  | bit3E
  /-- `BIT 3,H`, CB 5C (R232). -/
  | bit3H
  /-- `BIT 3,L`, CB 5D (R232). -/
  | bit3L
  /-- `BIT 3,(HL)`, CB 5E (R233). -/
  | bit3IndHL
  /-- `BIT 3,A`, CB 5F (R232). -/
  | bit3A
  /-- `BIT 4,B`, CB 60 (R232). -/
  | bit4B
  /-- `BIT 4,C`, CB 61 (R232). -/
  | bit4C
  /-- `BIT 4,D`, CB 62 (R232). -/
  | bit4D
  /-- `BIT 4,E`, CB 63 (R232). -/
  | bit4E
  /-- `BIT 4,H`, CB 64 (R232). -/
  | bit4H
  /-- `BIT 4,L`, CB 65 (R232). -/
  | bit4L
  /-- `BIT 4,(HL)`, CB 66 (R233). -/
  | bit4IndHL
  /-- `BIT 4,A`, CB 67 (R232). -/
  | bit4A
  /-- `BIT 5,B`, CB 68 (R232). -/
  | bit5B
  /-- `BIT 5,C`, CB 69 (R232). -/
  | bit5C
  /-- `BIT 5,D`, CB 6A (R232). -/
  | bit5D
  /-- `BIT 5,E`, CB 6B (R232). -/
  | bit5E
  /-- `BIT 5,H`, CB 6C (R232). -/
  | bit5H
  /-- `BIT 5,L`, CB 6D (R232). -/
  | bit5L
  /-- `BIT 5,(HL)`, CB 6E (R233). -/
  | bit5IndHL
  /-- `BIT 5,A`, CB 6F (R232). -/
  | bit5A
  /-- `BIT 6,B`, CB 70 (R232). -/
  | bit6B
  /-- `BIT 6,C`, CB 71 (R232). -/
  | bit6C
  /-- `BIT 6,D`, CB 72 (R232). -/
  | bit6D
  /-- `BIT 6,E`, CB 73 (R232). -/
  | bit6E
  /-- `BIT 6,H`, CB 74 (R232). -/
  | bit6H
  /-- `BIT 6,L`, CB 75 (R232). -/
  | bit6L
  /-- `BIT 6,(HL)`, CB 76 (R233). -/
  | bit6IndHL
  /-- `BIT 6,A`, CB 77 (R232). -/
  | bit6A
  /-- `BIT 7,B`, CB 78 (R232). -/
  | bit7B
  /-- `BIT 7,C`, CB 79 (R232). -/
  | bit7C
  /-- `BIT 7,D`, CB 7A (R232). -/
  | bit7D
  /-- `BIT 7,E`, CB 7B (R232). -/
  | bit7E
  /-- `BIT 7,H`, CB 7C (R232). -/
  | bit7H
  /-- `BIT 7,L`, CB 7D (R232). -/
  | bit7L
  /-- `BIT 7,(HL)`, CB 7E (R233). -/
  | bit7IndHL
  /-- `BIT 7,A`, CB 7F (R232). -/
  | bit7A
  /-- `RES 0,B`, CB 80 (R234). -/
  | res0B
  /-- `RES 0,C`, CB 81 (R234). -/
  | res0C
  /-- `RES 0,D`, CB 82 (R234). -/
  | res0D
  /-- `RES 0,E`, CB 83 (R234). -/
  | res0E
  /-- `RES 0,H`, CB 84 (R234). -/
  | res0H
  /-- `RES 0,L`, CB 85 (R234). -/
  | res0L
  /-- `RES 0,(HL)`, CB 86 (R235). -/
  | res0IndHL
  /-- `RES 0,A`, CB 87 (R234). -/
  | res0A
  /-- `RES 1,B`, CB 88 (R234). -/
  | res1B
  /-- `RES 1,C`, CB 89 (R234). -/
  | res1C
  /-- `RES 1,D`, CB 8A (R234). -/
  | res1D
  /-- `RES 1,E`, CB 8B (R234). -/
  | res1E
  /-- `RES 1,H`, CB 8C (R234). -/
  | res1H
  /-- `RES 1,L`, CB 8D (R234). -/
  | res1L
  /-- `RES 1,(HL)`, CB 8E (R235). -/
  | res1IndHL
  /-- `RES 1,A`, CB 8F (R234). -/
  | res1A
  /-- `RES 2,B`, CB 90 (R234). -/
  | res2B
  /-- `RES 2,C`, CB 91 (R234). -/
  | res2C
  /-- `RES 2,D`, CB 92 (R234). -/
  | res2D
  /-- `RES 2,E`, CB 93 (R234). -/
  | res2E
  /-- `RES 2,H`, CB 94 (R234). -/
  | res2H
  /-- `RES 2,L`, CB 95 (R234). -/
  | res2L
  /-- `RES 2,(HL)`, CB 96 (R235). -/
  | res2IndHL
  /-- `RES 2,A`, CB 97 (R234). -/
  | res2A
  /-- `RES 3,B`, CB 98 (R234). -/
  | res3B
  /-- `RES 3,C`, CB 99 (R234). -/
  | res3C
  /-- `RES 3,D`, CB 9A (R234). -/
  | res3D
  /-- `RES 3,E`, CB 9B (R234). -/
  | res3E
  /-- `RES 3,H`, CB 9C (R234). -/
  | res3H
  /-- `RES 3,L`, CB 9D (R234). -/
  | res3L
  /-- `RES 3,(HL)`, CB 9E (R235). -/
  | res3IndHL
  /-- `RES 3,A`, CB 9F (R234). -/
  | res3A
  /-- `RES 4,B`, CB A0 (R234). -/
  | res4B
  /-- `RES 4,C`, CB A1 (R234). -/
  | res4C
  /-- `RES 4,D`, CB A2 (R234). -/
  | res4D
  /-- `RES 4,E`, CB A3 (R234). -/
  | res4E
  /-- `RES 4,H`, CB A4 (R234). -/
  | res4H
  /-- `RES 4,L`, CB A5 (R234). -/
  | res4L
  /-- `RES 4,(HL)`, CB A6 (R235). -/
  | res4IndHL
  /-- `RES 4,A`, CB A7 (R234). -/
  | res4A
  /-- `RES 5,B`, CB A8 (R234). -/
  | res5B
  /-- `RES 5,C`, CB A9 (R234). -/
  | res5C
  /-- `RES 5,D`, CB AA (R234). -/
  | res5D
  /-- `RES 5,E`, CB AB (R234). -/
  | res5E
  /-- `RES 5,H`, CB AC (R234). -/
  | res5H
  /-- `RES 5,L`, CB AD (R234). -/
  | res5L
  /-- `RES 5,(HL)`, CB AE (R235). -/
  | res5IndHL
  /-- `RES 5,A`, CB AF (R234). -/
  | res5A
  /-- `RES 6,B`, CB B0 (R234). -/
  | res6B
  /-- `RES 6,C`, CB B1 (R234). -/
  | res6C
  /-- `RES 6,D`, CB B2 (R234). -/
  | res6D
  /-- `RES 6,E`, CB B3 (R234). -/
  | res6E
  /-- `RES 6,H`, CB B4 (R234). -/
  | res6H
  /-- `RES 6,L`, CB B5 (R234). -/
  | res6L
  /-- `RES 6,(HL)`, CB B6 (R235). -/
  | res6IndHL
  /-- `RES 6,A`, CB B7 (R234). -/
  | res6A
  /-- `RES 7,B`, CB B8 (R234). -/
  | res7B
  /-- `RES 7,C`, CB B9 (R234). -/
  | res7C
  /-- `RES 7,D`, CB BA (R234). -/
  | res7D
  /-- `RES 7,E`, CB BB (R234). -/
  | res7E
  /-- `RES 7,H`, CB BC (R234). -/
  | res7H
  /-- `RES 7,L`, CB BD (R234). -/
  | res7L
  /-- `RES 7,(HL)`, CB BE (R235). -/
  | res7IndHL
  /-- `RES 7,A`, CB BF (R234). -/
  | res7A
  /-- `SET 0,B`, CB C0 (R236). -/
  | set0B
  /-- `SET 0,C`, CB C1 (R236). -/
  | set0C
  /-- `SET 0,D`, CB C2 (R236). -/
  | set0D
  /-- `SET 0,E`, CB C3 (R236). -/
  | set0E
  /-- `SET 0,H`, CB C4 (R236). -/
  | set0H
  /-- `SET 0,L`, CB C5 (R236). -/
  | set0L
  /-- `SET 0,(HL)`, CB C6 (R237). -/
  | set0IndHL
  /-- `SET 0,A`, CB C7 (R236). -/
  | set0A
  /-- `SET 1,B`, CB C8 (R236). -/
  | set1B
  /-- `SET 1,C`, CB C9 (R236). -/
  | set1C
  /-- `SET 1,D`, CB CA (R236). -/
  | set1D
  /-- `SET 1,E`, CB CB (R236). -/
  | set1E
  /-- `SET 1,H`, CB CC (R236). -/
  | set1H
  /-- `SET 1,L`, CB CD (R236). -/
  | set1L
  /-- `SET 1,(HL)`, CB CE (R237). -/
  | set1IndHL
  /-- `SET 1,A`, CB CF (R236). -/
  | set1A
  /-- `SET 2,B`, CB D0 (R236). -/
  | set2B
  /-- `SET 2,C`, CB D1 (R236). -/
  | set2C
  /-- `SET 2,D`, CB D2 (R236). -/
  | set2D
  /-- `SET 2,E`, CB D3 (R236). -/
  | set2E
  /-- `SET 2,H`, CB D4 (R236). -/
  | set2H
  /-- `SET 2,L`, CB D5 (R236). -/
  | set2L
  /-- `SET 2,(HL)`, CB D6 (R237). -/
  | set2IndHL
  /-- `SET 2,A`, CB D7 (R236). -/
  | set2A
  /-- `SET 3,B`, CB D8 (R236). -/
  | set3B
  /-- `SET 3,C`, CB D9 (R236). -/
  | set3C
  /-- `SET 3,D`, CB DA (R236). -/
  | set3D
  /-- `SET 3,E`, CB DB (R236). -/
  | set3E
  /-- `SET 3,H`, CB DC (R236). -/
  | set3H
  /-- `SET 3,L`, CB DD (R236). -/
  | set3L
  /-- `SET 3,(HL)`, CB DE (R237). -/
  | set3IndHL
  /-- `SET 3,A`, CB DF (R236). -/
  | set3A
  /-- `SET 4,B`, CB E0 (R236). -/
  | set4B
  /-- `SET 4,C`, CB E1 (R236). -/
  | set4C
  /-- `SET 4,D`, CB E2 (R236). -/
  | set4D
  /-- `SET 4,E`, CB E3 (R236). -/
  | set4E
  /-- `SET 4,H`, CB E4 (R236). -/
  | set4H
  /-- `SET 4,L`, CB E5 (R236). -/
  | set4L
  /-- `SET 4,(HL)`, CB E6 (R237). -/
  | set4IndHL
  /-- `SET 4,A`, CB E7 (R236). -/
  | set4A
  /-- `SET 5,B`, CB E8 (R236). -/
  | set5B
  /-- `SET 5,C`, CB E9 (R236). -/
  | set5C
  /-- `SET 5,D`, CB EA (R236). -/
  | set5D
  /-- `SET 5,E`, CB EB (R236). -/
  | set5E
  /-- `SET 5,H`, CB EC (R236). -/
  | set5H
  /-- `SET 5,L`, CB ED (R236). -/
  | set5L
  /-- `SET 5,(HL)`, CB EE (R237). -/
  | set5IndHL
  /-- `SET 5,A`, CB EF (R236). -/
  | set5A
  /-- `SET 6,B`, CB F0 (R236). -/
  | set6B
  /-- `SET 6,C`, CB F1 (R236). -/
  | set6C
  /-- `SET 6,D`, CB F2 (R236). -/
  | set6D
  /-- `SET 6,E`, CB F3 (R236). -/
  | set6E
  /-- `SET 6,H`, CB F4 (R236). -/
  | set6H
  /-- `SET 6,L`, CB F5 (R236). -/
  | set6L
  /-- `SET 6,(HL)`, CB F6 (R237). -/
  | set6IndHL
  /-- `SET 6,A`, CB F7 (R236). -/
  | set6A
  /-- `SET 7,B`, CB F8 (R236). -/
  | set7B
  /-- `SET 7,C`, CB F9 (R236). -/
  | set7C
  /-- `SET 7,D`, CB FA (R236). -/
  | set7D
  /-- `SET 7,E`, CB FB (R236). -/
  | set7E
  /-- `SET 7,H`, CB FC (R236). -/
  | set7H
  /-- `SET 7,L`, CB FD (R236). -/
  | set7L
  /-- `SET 7,(HL)`, CB FE (R237). -/
  | set7IndHL
  /-- `SET 7,A`, CB FF (R236). -/
  | set7A
deriving DecidableEq, Repr

end Sys2Proof
end

