-- ==== Sys2Proof/Machine/Flags.lean ====
section
/-! DEFINITION. The flags byte and every flag computation of the spec: 8-bit arithmetic and logic (R160 to R192), 16-bit
arithmetic (R143, R200, R203) and the rotates, shifts and bit instructions (R210 to R237). Everything here is a function of the
operands; no state. -/

namespace Sys2Proof.Machine

/-- The flags byte with the four flags in bits 7 to 4 and a zero low nibble (R12). -/
def mkFlags (z n h c : Bool) : Byte :=
  BitVec.ofBool z ++ BitVec.ofBool n ++ BitVec.ofBool h ++ BitVec.ofBool c ++ 0#4

/-- `F.Z` (R12). -/
def flagZ (f : Byte) : Bool := f.getLsbD 7
/-- `F.N` (R12). -/
def flagN (f : Byte) : Bool := f.getLsbD 6
/-- `F.H` (R12). -/
def flagH (f : Byte) : Bool := f.getLsbD 5
/-- `F.C` (R12). -/
def flagC (f : Byte) : Bool := f.getLsbD 4

/-- A byte as F can hold it: "every write to F" is masked with 0xF0 (R12). -/
def maskFlags (v : Byte) : Byte := v &&& 0xF0

/-- An 8-bit result with the flags byte that goes with it. -/
structure Out where
  res : Byte
  flags : Byte
deriving DecidableEq, Repr

/-- `Add8(a, v, c)` (R160). -/
def add8 (a v : Byte) (c : Bool) : Out :=
  let s := a.toNat + v.toNat + bitNat c
  let res := BitVec.ofNat 8 s
  { res := res
    flags := mkFlags (res == 0) false (decide (a.toNat % 16 + v.toNat % 16 + bitNat c > 0xF)) (decide (s > 0xFF)) }

/-- `Sub8(a, v, c)` (R160); the difference may be negative and is reduced to a byte. -/
def sub8 (a v : Byte) (c : Bool) : Out :=
  let d : Int := (a.toNat : Int) - v.toNat - bitNat c
  let res := BitVec.ofInt 8 d
  { res := res
    flags := mkFlags (res == 0) true (decide ((a.toNat % 16 : Int) - (v.toNat % 16 : Nat) - bitNat c < 0)) (decide (d < 0)) }

/-- AND: H is always set, N and C cleared (R173). -/
def and8 (a v : Byte) : Out :=
  { res := a &&& v, flags := mkFlags (a &&& v == 0) false true false }

/-- XOR: N, H and C cleared (R176). -/
def xor8 (a v : Byte) : Out :=
  { res := a ^^^ v, flags := mkFlags (a ^^^ v == 0) false false false }

/-- OR: N, H and C cleared (R179). -/
def or8 (a v : Byte) : Out :=
  { res := a ||| v, flags := mkFlags (a ||| v == 0) false false false }

/-- The two-operand ALU operations on A and an operand, under the flags as they stand: the byte A holds afterwards (CP discards
its result) and the flags (R161 to R184). -/
def aluOut (op : AluOp) (a v f : Byte) : Out :=
  match op with
  | .add => add8 a v false
  | .adc => add8 a v (flagC f)
  | .sub => sub8 a v false
  | .sbc => sub8 a v (flagC f)
  | .and => and8 a v
  | .xor => xor8 a v
  | .or => or8 a v
  | .cp => { res := a, flags := (sub8 a v false).flags }

/-- 8-bit increment: C is unchanged (R185). -/
def inc8 (old f : Byte) : Out :=
  { res := old + 1, flags := mkFlags (old + 1 == 0) false (decide (old.toNat % 16 = 0xF)) (flagC f) }

/-- 8-bit decrement: C is unchanged (R187). -/
def dec8 (old f : Byte) : Out :=
  { res := old - 1, flags := mkFlags (old - 1 == 0) true (decide (old.toNat % 16 = 0)) (flagC f) }

/-- The adjustment DAA adds or subtracts (R189). -/
def daaAdjust (a f : Byte) : Byte :=
  let low : Byte := if flagH f || (!flagN f && decide (a.toNat % 16 > 0x9)) then 0x06 else 0x00
  let high : Byte := if flagC f || (!flagN f && decide (a.toNat > 0x99)) then 0x60 else 0x00
  low ||| high

/-- The carry DAA leaves: set by an addition's correction, otherwise unchanged (R189). -/
def daaCarry (a f : Byte) : Bool :=
  flagC f || (!flagN f && decide (a.toNat > 0x99))

/-- DAA: N is unchanged and H cleared (R189). -/
def daaOut (a f : Byte) : Out :=
  let res := if flagN f then a - daaAdjust a f else a + daaAdjust a f
  { res := res, flags := mkFlags (res == 0) (flagN f) false (daaCarry a f) }

/-- CPL: N and H set, Z and C unchanged (R190). -/
def cplOut (a f : Byte) : Out :=
  { res := ~~~a, flags := mkFlags (flagZ f) true true (flagC f) }

/-- SCF (R191). -/
def scfFlags (f : Byte) : Byte := mkFlags (flagZ f) false false true

/-- CCF (R192). -/
def ccfFlags (f : Byte) : Byte := mkFlags (flagZ f) false false (!flagC f)

/-- The flags of ADD HL,rr: carries out of bits 11 and 15, Z unchanged (R200). -/
def addHLFlags (hl v : Word) (f : Byte) : Byte :=
  mkFlags (flagZ f) false (decide (hl.toNat % 0x1000 + v.toNat % 0x1000 > 0xFFF)) (decide (hl.toNat + v.toNat > 0xFFFF))

/-- The flags of ADD SP,e and LD HL,SP+e: carries out of bits 3 and 7 of the unsigned low-byte addition (R143, R203). -/
def addSPFlags (sp : Word) (e : Byte) : Byte :=
  mkFlags false false (decide (sp.toNat % 16 + e.toNat % 16 > 0xF)) (decide (sp.toNat % 256 + e.toNat > 0xFF))

/-- The result byte of a rotate or shift (R215). -/
def rotResult (op : RotOp) (v : Byte) (cin : Bool) : Byte :=
  match op with
  | .rlc => (v <<< 1) ||| (if v.getLsbD 7 then 0x01 else 0x00)
  | .rrc => (v >>> 1) ||| (if v.getLsbD 0 then 0x80 else 0x00)
  | .rl => (v <<< 1) ||| (if cin then 0x01 else 0x00)
  | .rr => (v >>> 1) ||| (if cin then 0x80 else 0x00)
  | .sla => v <<< 1
  | .sra => (v >>> 1) ||| (v &&& 0x80)
  | .swap => (v <<< 4) ||| (v >>> 4)
  | .srl => v >>> 1

/-- The carry a rotate or shift leaves (R215). -/
def rotCarry (op : RotOp) (v : Byte) : Bool :=
  match op with
  | .rlc | .rl | .sla => v.getLsbD 7
  | .rrc | .rr | .sra | .srl => v.getLsbD 0
  | .swap => false

/-- A prefixed rotate or shift: Z from the result, N and H cleared (R215). -/
def rotOut (op : RotOp) (v f : Byte) : Out :=
  let res := rotResult op v (flagC f)
  { res := res, flags := mkFlags (res == 0) false false (rotCarry op v) }

/-- An accumulator rotate of the primary table: Z, N and H cleared (R210 to R213). -/
def rotAOut (op : RotOp) (a f : Byte) : Out :=
  { res := rotResult op a (flagC f), flags := mkFlags false false false (rotCarry op a) }

/-- The flags of BIT b: Z is the complement of the bit, C unchanged (R232). -/
def bitFlags (b : Fin 8) (v f : Byte) : Byte :=
  mkFlags (!v.getLsbD b.val) false true (flagC f)

/-- `v & ~(1 << b)` (R234). -/
def resBit (b : Fin 8) (v : Byte) : Byte := v &&& ~~~((1 : Byte) <<< b.val)

/-- `v | (1 << b)` (R236). -/
def setBit (b : Fin 8) (v : Byte) : Byte := v ||| ((1 : Byte) <<< b.val)

end Sys2Proof.Machine
end

