-- ==== Sys2Proof/Machine/Operands.lean ====
section
/-! DEFINITION. The operand forms: registers by name, register pairs, the flags register, conditions, and the small named updates
of the state the meanings are written with (R10 to R14, R250). No register is hard-wired; F's low nibble is kept at 0 by masking
every write of F (R12). -/

namespace Sys2Proof.Machine

/-- `x[i]` (R10). -/
def State.reg (s : State) : Reg8 → Byte
  | .b => s.regs.b
  | .c => s.regs.c
  | .d => s.regs.d
  | .e => s.regs.e
  | .h => s.regs.h
  | .l => s.regs.l
  | .a => s.regs.a

/-- `x[i] <- v` (R10). -/
def State.setReg (s : State) (r : Reg8) (v : Byte) : State :=
  match r with
  | .b => { s with regs := { s.regs with b := v } }
  | .c => { s with regs := { s.regs with c := v } }
  | .d => { s with regs := { s.regs with d := v } }
  | .e => { s with regs := { s.regs with e := v } }
  | .h => { s with regs := { s.regs with h := v } }
  | .l => { s with regs := { s.regs with l := v } }
  | .a => { s with regs := { s.regs with a := v } }

/-- `F <- v`, masked with 0xF0 (R12). -/
def State.setF (s : State) (v : Byte) : State := { s with regs := { s.regs with f := maskFlags v } }

/-- `SP <- v` (R13). -/
def State.setSP (s : State) (v : Word) : State := { s with regs := { s.regs with sp := v } }

/-- `pc <- v` (R14). -/
def State.setPC (s : State) (v : Word) : State := { s with regs := { s.regs with pc := v } }

/-- `cost <- n`: the cycles the instruction returns to the step (R430). -/
def State.setCost (s : State) (n : Nat) : State := { s with ctl := { s.ctl with cost := n } }

/-- `ime_pipe[1] <- v`: a request for the global enable (R273, R274, R260). -/
def State.requestIme (s : State) (v : Bool) : State := { s with irq := { s.irq with pipe1 := some v } }

/-- `IF <- IF | bits`: sources set pending bits (R450). -/
def State.raiseIF (s : State) (bits : Byte) : State := { s with irq := { s.irq with flags := s.irq.flags ||| bits } }

/-- The pair BC (R11). -/
def State.bc (s : State) : Word := mkWord s.regs.b s.regs.c
/-- The pair DE (R11). -/
def State.de (s : State) : Word := mkWord s.regs.d s.regs.e
/-- The pair HL (R11). -/
def State.hl (s : State) : Word := mkWord s.regs.h s.regs.l
/-- The pair AF (R11). -/
def State.af (s : State) : Word := mkWord s.regs.a s.regs.f

/-- `HL <- v` (R11). -/
def State.setHL (s : State) (v : Word) : State := (s.setReg .h (hiByte v)).setReg .l (loByte v)

/-- The pair field `rr` read (R11). -/
def State.pair (s : State) : Pair → Word
  | .bc => s.bc
  | .de => s.de
  | .hl => s.hl
  | .sp => s.regs.sp

/-- The pair field `rr` written (R11). -/
def State.setPair (s : State) (p : Pair) (v : Word) : State :=
  match p with
  | .bc => (s.setReg .b (hiByte v)).setReg .c (loByte v)
  | .de => (s.setReg .d (hiByte v)).setReg .e (loByte v)
  | .hl => s.setHL v
  | .sp => s.setSP v

/-- The pair field `qq` read (R11). -/
def State.stackPair (s : State) : StackPair → Word
  | .bc => s.bc
  | .de => s.de
  | .hl => s.hl
  | .af => s.af

/-- The pair field `qq` written; writing AF masks F (R11, R12). -/
def State.setStackPair (s : State) (q : StackPair) (v : Word) : State :=
  match q with
  | .bc => s.setPair .bc v
  | .de => s.setPair .de v
  | .hl => s.setPair .hl v
  | .af => (s.setReg .a (hiByte v)).setF (loByte v)

/-- `Cond(cc)` on the flags as they stand (R250). -/
def State.cond (s : State) : Cond → Bool
  | .nz => !flagZ s.regs.f
  | .z => flagZ s.regs.f
  | .nc => !flagC s.regs.f
  | .c => flagC s.regs.f

end Sys2Proof.Machine
end

