-- ==== Sys2Proof/Machine/Ppu.lean ====
section
/-! DEFINITION. The PPU (spec/50_ppu.md): registers, the mode sequencer and the rendering of a line. It reads memory directly and
is never blocked (R330). Each function gives the PPU's new state; the sequencer also gives the IF bits it raises. -/

namespace Sys2Proof.Machine

/-- The mode number read in STAT bits 1:0 (R308). -/
def modeNumber : PpuMode → Byte
  | .hBlank => 0
  | .vBlank => 1
  | .oamScan => 2
  | .drawing => 3

/-- LCDC bit 7, the display enable (R302). -/
def Ppu.displayOn (p : Ppu) : Bool := p.lcdc.getLsbD 7

/-- A read of STAT: the stored bits 7:3, the compare flag and the mode number (R304). -/
def Ppu.readStat (p : Ppu) : Byte :=
  (p.stat &&& 0xF8) ||| (if p.ly = p.lyc then 0x04 else 0x00) ||| modeNumber p.mode

/-- A write to LCDC; bit 7 turns the display off and on (R303). -/
def Ppu.writeLcdc (p : Ppu) (v : Byte) : Ppu :=
  let q := { p with lcdc := v }
  if p.lcdc.getLsbD 7 && !v.getLsbD 7 then { q with ly := 0, mode := .hBlank, acc := 0 }
  else if !p.lcdc.getLsbD 7 && v.getLsbD 7 then { q with ly := 0, mode := .oamScan, acc := 0 }
  else q

/-! ### Rendering one line (R330 to R346) -/

/-- `Shade(P, i)`: entry `i` of a palette register (R336). -/
def shade (palette : Byte) (i : BitVec 2) : BitVec 2 := palette.extractLsb' (2 * i.toNat) 2

/-- Colour index from the two bitplane bytes of a tile row, `hi[b] * 2 + lo[b]` (R335). -/
def planeIndex (lo hi : Byte) (b : Nat) : BitVec 2 :=
  BitVec.ofBool (hi.getLsbD b) ++ BitVec.ofBool (lo.getLsbD b)

/-- The address of a tile's first byte under LCDC bit 4's addressing mode (R335). -/
def tileBase (lcdc t : Byte) : Nat :=
  if lcdc.getLsbD 4 then 0x8000 + t.toNat * 16 else (0x9000 + t.toInt * 16).toNat

/-- `TilePixel(map, px, py)` (R335). -/
def tilePixel (m : Memory) (lcdc : Byte) (map px py : Nat) : BitVec 2 :=
  let t := Memory.read m (map + py / 8 * 32 + px / 8)
  let base := tileBase lcdc t
  let lo := Memory.read m (base + 2 * (py % 8))
  let hi := Memory.read m (base + 2 * (py % 8) + 1)
  planeIndex lo hi (7 - px % 8)

/-- The window covers pixel `(x, ly)` (R334). -/
def windowCovers (p : Ppu) (ly x : Nat) : Bool :=
  p.lcdc.getLsbD 5 && decide (p.wy.toNat ≤ ly) && decide (p.wx.toNat ≤ x + 7)

/-- `BgWinIndex(ly, x)`: the background or window colour index of a pixel (R332, R334). -/
def bgWinIndex (m : Memory) (p : Ppu) (ly x : Nat) : BitVec 2 :=
  if !p.lcdc.getLsbD 0 then 0
  else if windowCovers p ly x then
    tilePixel m p.lcdc (if p.lcdc.getLsbD 6 then 0x9C00 else 0x9800) (x + 7 - p.wx.toNat) (ly - p.wy.toNat)
  else
    tilePixel m p.lcdc (if p.lcdc.getLsbD 3 then 0x9C00 else 0x9800) ((x + p.scx.toNat) % 256) ((ly + p.scy.toNat) % 256)

/-- One pixel while its line is rendered: the background index, the shade written so far and the Y byte of the sprite that
claimed it (R330, R340: `bg_idx[x]`, `fb[ly][x]`, `claim[x]`). -/
structure Pixel where
  bg : BitVec 2
  shade : BitVec 2
  claim : Option Byte
deriving DecidableEq, Repr

/-- `SpritePixel(ly, x, i, Y, A)`: the priority rules (R346). -/
def spritePixel (p : Ppu) (i : BitVec 2) (y attr : Byte) (px : Pixel) : Pixel :=
  if i = 0 then px
  else if px.claim.any (fun cy => decide (cy.toNat < y.toNat)) then px
  else if attr.getLsbD 7 && px.bg != 0 then px
  else { px with shade := shade (if attr.getLsbD 4 then p.obp1 else p.obp0) i, claim := some y }

/-- The lines a sprite covers: 16 with LCDC bit 2, else 8 (R340). -/
def spriteHeight (p : Ppu) : Nat := if p.lcdc.getLsbD 2 then 16 else 8

/-- The row of its tile data a sprite shows on a line, if it covers the line; vertical flip is attribute bit 6 (R340). -/
def spriteRow (p : Ppu) (ly : Nat) (y attr : Byte) : Option Nat :=
  let h := spriteHeight p
  if y.toNat ≤ ly + 16 ∧ ly + 16 < y.toNat + h then
    let row := ly + 16 - y.toNat
    some (if attr.getLsbD 6 then h - 1 - row else row)
  else none

/-- The effect of OAM entry `s` on the pixel of column `x` of line `ly` (R340, R342). The spec draws a sprite's eight columns in
turn; each column touches only its own pixel, so the pass is written per pixel (log entry 5). -/
def spriteOn (m : Memory) (p : Ppu) (ly x : Nat) (px : Pixel) (s : Nat) : Pixel :=
  let y := Memory.read m (0xFE00 + 4 * s)
  let sx := (Memory.read m (0xFE01 + 4 * s)).toNat
  let t := Memory.read m (0xFE02 + 4 * s)
  let attr := Memory.read m (0xFE03 + 4 * s)
  match spriteRow p ly y attr with
  | none => px
  | some row =>
    if sx ≤ x + 8 ∧ x < sx then
      let c := x + 8 - sx
      let tile := if p.lcdc.getLsbD 2 then t &&& 0xFE else t
      let lo := Memory.read m (0x8000 + tile.toNat * 16 + 2 * row)
      let hi := Memory.read m (0x8000 + tile.toNat * 16 + 2 * row + 1)
      spritePixel p (planeIndex lo hi (if attr.getLsbD 5 then c else 7 - c)) y attr px
    else px

/-- The shade `RenderLine(ly)` writes to column `x` (R330): background or window, then the 40 OAM entries in ascending order. -/
def linePixel (m : Memory) (p : Ppu) (ly x : Nat) : BitVec 2 :=
  let bg := bgWinIndex m p ly x
  let base : Pixel := { bg := bg, shade := if p.lcdc.getLsbD 0 then shade p.bgp bg else 0, claim := none }
  if p.lcdc.getLsbD 1 then ((List.range 40).foldl (spriteOn m p ly x) base).shade else base.shade

/-- `RenderLine(ly)`: only row `ly` of the framebuffer is written (R330). -/
def renderLine (m : Memory) (p : Ppu) (ly : Nat) : Ppu :=
  { p with fb := p.fb.setIfInBounds ly (Vector.ofFn (fun x : Fin 160 => linePixel m p ly x.val)) }

/-! ### The mode sequencer (R310 to R320). The second component of a pair collects the IF bits raised. -/

/-- `StatEvent(b)`: raise IF bit 1 when STAT's enable bit `b` is set (R318). -/
def statEvent (b : Nat) (q : Ppu × Byte) : Ppu × Byte :=
  if q.1.stat.getLsbD b then (q.1, q.2 ||| 0x02) else q

/-- `SetLY(v)`: set the scanline counter and run the compare (R314, R320). -/
def setLY (v : Byte) (q : Ppu × Byte) : Ppu × Byte :=
  let q' : Ppu × Byte := ({ q.1 with ly := v }, q.2)
  if q'.1.ly = q'.1.lyc then statEvent 6 q' else q'

/-- Enter a mode, keeping the cycles beyond the budget of the one left (R310). -/
def enterMode (mode : PpuMode) (budget : Nat) (q : Ppu × Byte) : Ppu × Byte :=
  ({ q.1 with mode := mode, acc := q.1.acc - budget }, q.2)

/-- The cycles of a mode (of one line in VBlank) (R310). -/
def modeBudget : PpuMode → Nat
  | .oamScan => 80
  | .drawing => 172
  | .hBlank => 204
  | .vBlank => 456

/-- One round of the sequencer's loop: the transition that is due, or none (R310). -/
def ppuTransition (m : Memory) (q : Ppu × Byte) : Option (Ppu × Byte) :=
  if q.1.acc < modeBudget q.1.mode then none
  else
    match q.1.mode with
    | .oamScan => some (enterMode .drawing 80 q)
    | .drawing =>
      let q := enterMode .hBlank 172 q
      some (statEvent 3 (renderLine m q.1 q.1.ly.toNat, q.2))
    | .hBlank =>
      let q := setLY (q.1.ly + 1) (enterMode .hBlank 204 q)
      if q.1.ly = 144 then
        some (statEvent 4 ({ q.1 with mode := .vBlank }, q.2 ||| 0x01))
      else
        some (statEvent 5 ({ q.1 with mode := .oamScan }, q.2))
    | .vBlank =>
      let q := enterMode .vBlank 456 q
      if q.1.ly = 153 then
        let q := setLY 0 q
        some (statEvent 5 ({ q.1 with mode := .oamScan }, q.2))
      else some (setLY (q.1.ly + 1) q)

/-- "repeat … until not moved" (R310), with at most `fuel` rounds. Every transition uses at least 80 cycles. -/
def ppuRun (m : Memory) : Nat → Ppu × Byte → Ppu × Byte
  | 0, q => q
  | fuel + 1, q =>
    match ppuTransition m q with
    | none => q
    | some q' => ppuRun m fuel q'

/-- `PpuTick(n)` (R310): the PPU after n cycles and the IF bits raised. While the display is off nothing moves (R303). -/
def ppuTick (m : Memory) (n : Nat) (p : Ppu) : Ppu × Byte :=
  if p.displayOn then ppuRun m ((p.acc + n) / 80 + 1) ({ p with acc := p.acc + n }, 0) else (p, 0)

end Sys2Proof.Machine
end

