-- ==== Sys2Proof/Machine/Timer.lean ====
section
/-! DEFINITION. The two timers (R460 to R463) as a function of the elapsed cycles: the timers' new state and the IF bits they
raise. -/

namespace Sys2Proof.Machine

/-- `TIMER_PERIOD[TAC[1:0]]` in cycles (R462). -/
def timerPeriod (tac : Byte) : Nat :=
  match (tac.extractLsb' 0 2).toNat with
  | 0 => 1024
  | 1 => 16
  | 2 => 64
  | _ => 256

/-- One increment of TIMA: on overflow it takes TMA's value and IF bit 2 is raised (R463). The second component collects the
raised IF bits. -/
def timaIncrement (t : Timer × Byte) : Timer × Byte :=
  if t.1.tima = 0xFF then ({ t.1 with tima := t.1.tma }, t.2 ||| 0x04)
  else ({ t.1 with tima := t.1.tima + 1 }, t.2)

/-- The divider's part of `TimerTick(n)`: one DIV increment per 256 cycles, the rest kept (R460, R461). -/
def divTick (n : Nat) (t : Timer) : Timer :=
  { t with
    divCounter := (t.divCounter + n) % 256
    div := t.div + BitVec.ofNat 8 ((t.divCounter + n) / 256) }

/-- The configurable counter's part of `TimerTick(n)`: held while TAC bit 2 is 0, else one increment per period (R460, R462). -/
def timaTick (n : Nat) (t : Timer) : Timer × Byte :=
  if t.tac.getLsbD 2 then
    let c := t.timaCounter + n
    let p := timerPeriod t.tac
    repeatN (c / p) timaIncrement ({ t with timaCounter := c % p }, 0)
  else (t, 0)

/-- `TimerTick(n)` (R460): the timers after n cycles and the IF bits raised. -/
def timerTick (n : Nat) (t : Timer) : Timer × Byte := timaTick n (divTick n t)

/-- A write to DIV zeroes the register and its cycle counter; the other timer is untouched (R461, decision D20). -/
def Timer.writeDiv (t : Timer) : Timer := { t with div := 0x00, divCounter := 0 }

end Sys2Proof.Machine
end

