-- ==== Sys2Proof/Machine/Bus.lean ====
section
/-! DEFINITION. The bus (spec/20_memory.md): the address map, one-byte reads and writes with every region's rule, the bank
controller and the DMA copy. No access faults (R84, R441). -/

namespace Sys2Proof.Machine

/-- The owners of the address map (R55). -/
inductive Region where
  | romFixed | romBank | videoRam | extRam | workRam | echo | oam | unused | io | highRam | ie
deriving DecidableEq, Repr

/-- The owner of an address: total and exclusive (R55). -/
def regionOf (a : Nat) : Region :=
  if a < 0x4000 then .romFixed
  else if a < 0x8000 then .romBank
  else if a < 0xA000 then .videoRam
  else if a < 0xC000 then .extRam
  else if a < 0xE000 then .workRam
  else if a < 0xFE00 then .echo
  else if a < 0xFEA0 then .oam
  else if a < 0xFF00 then .unused
  else if a < 0xFF80 then .io
  else if a < 0xFFFF then .highRam
  else .ie

/-- The I/O registers with behaviour of their own (R24); `plain` is every other address of the region (decision D8). -/
inductive IoReg where
  | p1 | div | tima | tma | tac | irqFlags | sound | nr52
  | lcdc | stat | scy | scx | ly | lyc | dma | bgp | obp0 | obp1 | wy | wx | plain
deriving DecidableEq, Repr

/-- The register map's single addresses (R24). -/
def ioMap : List (Nat × IoReg) :=
  [(0xFF00, .p1), (0xFF04, .div), (0xFF05, .tima), (0xFF06, .tma), (0xFF07, .tac), (0xFF0F, .irqFlags), (0xFF26, .nr52),
   (0xFF40, .lcdc), (0xFF41, .stat), (0xFF42, .scy), (0xFF43, .scx), (0xFF44, .ly), (0xFF45, .lyc), (0xFF46, .dma),
   (0xFF47, .bgp), (0xFF48, .obp0), (0xFF49, .obp1), (0xFF4A, .wy), (0xFF4B, .wx)]

/-- The register at an I/O address (R24): 0xFF10-0xFF25 are the sound registers (R364) but for 0xFF15 and 0xFF1F, which R24 does
not list and which are plain storage like every other such address (R24, R63, decision D8, U7; log entry 20). -/
def ioRegOf (a : Nat) : IoReg :=
  if 0xFF10 ≤ a ∧ a ≤ 0xFF25 ∧ a ≠ 0xFF15 ∧ a ≠ 0xFF1F then .sound else (ioMap.lookup a).getD .plain

/-! ### Blocking (R59, R60, R322) -/

/-- Video RAM is inaccessible to the CPU (R59). -/
def State.videoRamBlocked (s : State) : Bool := s.ppu.displayOn && s.ppu.mode == .drawing

/-- Object-attribute memory is inaccessible to the CPU (R60). -/
def State.oamBlocked (s : State) : Bool := s.ppu.displayOn && (s.ppu.mode == .oamScan || s.ppu.mode == .drawing)

/-! ### Cartridge and bank controller (R57, R61, R70 to R73) -/

/-- A byte of `CART.rom`; beyond the end it reads 0xFF (R57). -/
def Cart.romByte (c : Cart) (i : Nat) : Byte :=
  if i < c.romSize then Memory.read c.rom i else Config.beyondRomValue

/-- `ramEnabled()`: always false with the no-op controller (R61, R70). -/
def State.ramEnabled (s : State) : Bool := s.plat.cart.kind == .banked && s.bank.ramEnable

/-- External RAM is enabled and present (R61). -/
def State.ramReachable (s : State) : Bool := s.ramEnabled && decide (0 < s.plat.cart.ramSize)

/-- The offset in `ext_ram` of an address: beyond the RAM's size it wraps (R61). -/
def State.ramOffset (s : State) (a : Nat) : Nat := (a - 0xA000) % s.plat.cart.ramSize

/-- ROM bank select: the low 5 bits, 0 becomes 1; an out-of-range bank is reported, reduced modulo the bank count, and 0 becomes
1 again (R71, decision D11). -/
def Bank.select (k : Bank) (bankCount : Nat) (v : Byte) : Bank :=
  let raw := v.toNat % 32
  let b := if raw = 0 then 1 else raw
  if b < bankCount then { k with romBank := b }
  else
    let r := b % bankCount
    { k with romBank := if r = 0 then 1 else r, outOfRangeReports := k.outOfRangeReports + 1 }

/-- A write below the ROM boundary: a command to the bank controller (R57, R70 to R73). -/
def State.bankCommand (s : State) (a : Nat) (v : Byte) : State :=
  match s.plat.cart.kind with
  | .noController => s
  | .banked =>
    if a < 0x2000 then
      { s with bank := { s.bank with ramEnable := v.extractLsb' 0 4 == Config.ramEnableSentinel } }
    else if a < 0x4000 then { s with bank := s.bank.select s.plat.cart.bankCount v }
    else s

/-! ### Reads (R54 to R68) -/

/-- A read of P1: the stored select bits and the selected input lines, active low (R66). -/
def State.readP1 (s : State) : Byte :=
  let m := s.plat.input
  let directions : BitVec 4 := if s.p1.getLsbD 4 then 0 else m.extractLsb' 0 4
  let buttons : BitVec 4 := if s.p1.getLsbD 5 then 0 else m.extractLsb' 4 4
  s.p1.extractLsb' 4 4 ++ ~~~(directions ||| buttons)

/-- A read of the I/O region (R24, R63). -/
def State.readIo (s : State) (a : Nat) : Byte :=
  match ioRegOf a with
  | .p1 => s.readP1
  | .div => s.timer.div
  | .tima => s.timer.tima
  | .tma => s.timer.tma
  | .tac => s.timer.tac
  | .irqFlags => s.irq.flags
  | .sound => s.apu.reg (a - 0xFF10)
  | .nr52 => s.apu.readNr52
  | .lcdc => s.ppu.lcdc
  | .stat => s.ppu.readStat
  | .scy => s.ppu.scy
  | .scx => s.ppu.scx
  | .ly => s.ppu.ly
  | .lyc => s.ppu.lyc
  | .dma => s.ppu.dma
  | .bgp => s.ppu.bgp
  | .obp0 => s.ppu.obp0
  | .obp1 => s.ppu.obp1
  | .wy => s.ppu.wy
  | .wx => s.ppu.wx
  | .plain => Memory.read s.mem a

/-- A read of the fixed ROM bank: the boot image while it overlays the low 256 addresses, else the cartridge (R56, R57). -/
def State.readRomFixed (s : State) (a : Nat) : Byte :=
  match s.plat.bootImage with
  | none => s.plat.cart.romByte a
  | some image =>
    if h : a < 256 then (if s.ctl.bootMapped then image[a] else s.plat.cart.romByte a) else s.plat.cart.romByte a

/-- One bus read; `blocking` is the rule of R59 and R60, which `BusReadRaw` switches off (R50, R55, R64). -/
def State.busRead (s : State) (blocking : Bool) (a : Word) : Byte :=
  let n := a.toNat
  match regionOf n with
  | .romFixed => s.readRomFixed n
  | .romBank => s.plat.cart.romByte (s.bank.romBank * 0x4000 + (n - 0x4000))
  | .videoRam => if blocking && s.videoRamBlocked then Config.blockedReadValue else Memory.read s.mem n
  | .extRam => if s.ramReachable then Memory.read s.extRam (s.ramOffset n) else Config.disabledRamValue
  | .workRam => Memory.read s.mem n
  | .echo => Memory.read s.mem (n - 0x2000)
  | .oam => if blocking && s.oamBlocked then Config.blockedReadValue else Memory.read s.mem n
  | .unused => Memory.read s.mem n
  | .io => s.readIo n
  | .highRam => Memory.read s.mem n
  | .ie => s.irq.enable

/-- `MemRead(addr, 1)` (R50). -/
def State.memRead (s : State) (a : Word) : Byte := s.busRead true a

/-! ### Writes (R50, R55 to R68) -/

/-- Store a byte in `mem`. -/
def State.storeMem (s : State) (n : Nat) (v : Byte) : State := { s with mem := Memory.write s.mem n v }

/-- One byte of the DMA copy: OAM byte `i` from the source page, read without blocking and written whatever the mode (R64). -/
def State.dmaByte (page : Byte) (s : State) (i : Nat) : State :=
  s.storeMem (0xFE00 + i) (s.busRead false (BitVec.ofNat 16 (page.toNat * 0x100 + i)))

/-- A write to the DMA register: the page is stored, then 160 bytes are copied in ascending order (R64). -/
def State.dma (s : State) (page : Byte) : State :=
  (List.range 160).foldl (State.dmaByte page) { s with ppu := { s.ppu with dma := page } }

/-- A write to the I/O region (R24, R63). -/
def State.writeIo (s : State) (a : Nat) (v : Byte) : State :=
  match ioRegOf a with
  | .p1 => { s with p1 := v &&& 0xF0 }
  | .div => { s with timer := s.timer.writeDiv }
  | .tima => { s with timer := { s.timer with tima := v } }
  | .tma => { s with timer := { s.timer with tma := v } }
  | .tac => { s with timer := { s.timer with tac := v } }
  | .irqFlags => { s with irq := { s.irq with flags := v } }
  | .sound => { s with apu := s.apu.writeReg (a - 0xFF10) v }
  | .nr52 => { s with apu := s.apu.writeNr52 v }
  | .lcdc => { s with ppu := s.ppu.writeLcdc v }
  | .stat => { s with ppu := { s.ppu with stat := v &&& 0xF8 } }
  | .scy => { s with ppu := { s.ppu with scy := v } }
  | .scx => { s with ppu := { s.ppu with scx := v } }
  | .ly => { s with ppu := { s.ppu with ly := 0x00 } }
  | .lyc => { s with ppu := { s.ppu with lyc := v } }
  | .dma => s.dma v
  | .bgp => { s with ppu := { s.ppu with bgp := v } }
  | .obp0 => { s with ppu := { s.ppu with obp0 := v } }
  | .obp1 => { s with ppu := { s.ppu with obp1 := v } }
  | .wy => { s with ppu := { s.ppu with wy := v } }
  | .wx => { s with ppu := { s.ppu with wx := v } }
  | .plain => s.storeMem a v

/-- `MemWrite(addr, 1, v)` (R50): every side effect is complete when it returns (R54). -/
def State.memWrite (s : State) (a : Word) (v : Byte) : State :=
  let n := a.toNat
  match regionOf n with
  | .romFixed => s.bankCommand n v
  | .romBank => s.bankCommand n v
  | .videoRam => if s.videoRamBlocked then s else s.storeMem n v
  | .extRam => if s.ramReachable then { s with extRam := Memory.write s.extRam (s.ramOffset n) v } else s
  | .workRam => s.storeMem n v
  | .echo => s.storeMem (n - 0x2000) v
  | .oam => if s.oamBlocked then s else s.storeMem n v
  | .unused => s.storeMem n v
  | .io => s.writeIo n v
  | .highRam => s.storeMem n v
  | .ie => { s with irq := { s.irq with enable := v } }

end Sys2Proof.Machine
end

