-- ==== Sys2Proof/Machine/Tick.lean ====
section
/-! DEFINITION. `Tick(n)` (R432): the cycle clock, the timers, the PPU and the APU advance by n cycles; the IF bits they raise are
ORed in. -/

namespace Sys2Proof.Machine

/-- The timers' part of `Tick(n)` (R460). -/
def State.tickTimer (n : Nat) (s : State) : State :=
  let r := timerTick n s.timer
  State.raiseIF { s with timer := r.1 } r.2

/-- The PPU's part of `Tick(n)` (R310). -/
def State.tickPpu (n : Nat) (s : State) : State :=
  let r := ppuTick s.mem n s.ppu
  State.raiseIF { s with ppu := r.1 } r.2

/-- The APU's part of `Tick(n)` (R368). -/
def State.tickApu (n : Nat) (s : State) : State := { s with apu := apuTick s.plat.noiseReseed n s.apu }

/-- The clock's part of `Tick(n)` (R18, R432). -/
def State.tickClock (n : Nat) (s : State) : State := { s with ctl := { s.ctl with cycleClock := s.ctl.cycleClock + n } }

/-- `Tick(n)` (R432). -/
def State.tick (n : Nat) (s : State) : State :=
  State.tickApu n (State.tickPpu n (State.tickTimer n (State.tickClock n s)))

end Sys2Proof.Machine
end

