-- ==== Sys2Proof/Machine/Ops.lean ====
section
/-! DEFINITION. The named operations the meanings share: operand fetch, the stack, taking the synchronous exception, the delayed
global enable, interrupt dispatch, and the return from an interrupt (spec/30_encoding.md, spec/41_load16.md,
spec/60_exceptions.md). -/

namespace Sys2Proof.Machine

/-- What a meaning answers. -/
abbrev Result := Host.Outcome State Fault Refusal

/-- `Fetch8()` (R92): the byte at pc and the state with pc advanced. -/
def State.fetch8 (s : State) : Byte × State := (s.memRead s.regs.pc, s.setPC (s.regs.pc + 1))

/-- `Push16(v)` (R148): the high byte at SP-1, then the low byte at SP-2, each a bus write of its own. -/
def State.push16 (s : State) (v : Word) : State :=
  let s1 := s.setSP (s.regs.sp - 1)
  let s2 := s1.memWrite s1.regs.sp (hiByte v)
  let s3 := s2.setSP (s2.regs.sp - 1)
  s3.memWrite s3.regs.sp (loByte v)

/-- The value `Pop16()` returns (R149): the low byte at SP, the high byte at SP+1. -/
def State.popValue (s : State) : Word := mkWord (s.memRead (s.regs.sp + 1)) (s.memRead s.regs.sp)

/-- The state after `Pop16()` (R149): SP advanced by two; reads change nothing (R54). -/
def State.popped (s : State) : State := s.setSP (s.regs.sp + 2)

/-- `raise UnimplementedOpcode(op, addr)` (R276, R440): pc stays at the offending byte and the sticky fault is set. The fault's
entry is a next state; it is the next `step` that is not enabled. -/
def State.raiseUnimplemented (s : State) (op : Byte) : State :=
  let addr := s.ctl.instrAddr
  { s.setPC addr with ctl := { s.ctl with fault := some (.unimplementedOpcode op addr) } }

/-- `ImeAdvance()` (R436). -/
def State.imeAdvance (s : State) : State :=
  { s with irq := { s.irq with ime := s.irq.pipe0.getD s.irq.ime, pipe0 := s.irq.pipe1, pipe1 := none } }

/-- The four interrupt sources in priority order (R450, R453). -/
inductive Source where
  | videoBlank | displayStatus | timerOverflow | inputEdge
deriving DecidableEq, Repr

/-- A source's bit in IE and IF (R450). -/
def Source.bit : Source → Nat
  | .videoBlank => 0
  | .displayStatus => 1
  | .timerOverflow => 2
  | .inputEdge => 4

/-- The fixed vector of a source (R452). -/
def Source.vector : Source → Word
  | .videoBlank => 0x0040
  | .displayStatus => 0x0048
  | .timerOverflow => 0x0050
  | .inputEdge => 0x0060

/-- `IE & IF & 0x17` (R453). -/
def State.pending (s : State) : Byte := s.irq.enable &&& s.irq.flags &&& Config.interruptMask

/-- The source an interrupt check serves: the first in priority order among the pending, enabled ones (R453). -/
def highestSource (pend : Byte) : Option Source :=
  [Source.videoBlank, .displayStatus, .timerOverflow, .inputEdge].find? (fun i => pend.getLsbD i.bit)

/-- `Dispatch(i)`, taking an interrupt (R455): the serviced flag and the global enable are cleared, PC is pushed, execution goes
to the source's vector, and the dispatch's cycles are propagated. -/
def State.dispatch (s : State) (i : Source) : State :=
  let s1 := { s with irq := { s.irq with flags := s.irq.flags &&& ~~~((1 : Byte) <<< i.bit), ime := false } }
  State.tick Config.intDispatchCycles ((s1.push16 s1.regs.pc).setPC i.vector)

/-- `InterruptCheck()` (R453): a pending enabled source ends the halted state; with the global enable set it is dispatched. -/
def State.interruptCheck (s : State) : State :=
  match highestSource s.pending with
  | none => s
  | some i =>
    let s1 := { s with ctl := { s.ctl with halted := false } }
    if s.irq.ime then s1.dispatch i else s1

/-- The return from an interrupt, RETI's effect (R260, R457): pop PC and request the global enable through the delayed path. -/
def State.returnFromInterrupt (s : State) : State := (s.popped.setPC s.popValue).requestIme true

/-- Phases 3 to 5 of a step (R430): the global-enable pipeline, the tick of the instruction's cost, the interrupt check. -/
def State.finishStep (s : State) : State := (State.tick s.ctl.cost s.imeAdvance).interruptCheck

end Sys2Proof.Machine
end

