-- ==== Sys2Proof/Machine/Alu16.lean ====
section
/-! DEFINITION. 16-bit arithmetic (spec/43_alu16.md). -/

namespace Sys2Proof.Machine

/-- `ADD HL,rr`: the flags are computed from HL before it is overwritten (R200). -/
def State.addHL (s : State) (p : Pair) : State :=
  ((s.setHL (s.hl + s.pair p)).setF (addHLFlags s.hl (s.pair p) s.regs.f)).setCost 8

/-- `INC rr`: no flag changes (R201). -/
def State.incPair (s : State) (p : Pair) : State := (s.setPair p (s.pair p + 1)).setCost 8

/-- `DEC rr`: no flag changes (R202). -/
def State.decPair (s : State) (p : Pair) : State := (s.setPair p (s.pair p - 1)).setCost 8

/-- `ADD SP,e` (R203). -/
def State.addSPE (s : State) (e : Byte) : State :=
  ((s.setSP (s.regs.sp + sext16 e)).setF (addSPFlags s.regs.sp e)).setCost 16

/-- `INC BC` (R201). -/
def execIncBC (s : State) : Result := .next (s.incPair .bc)

/-- `ADD HL,BC` (R200). -/
def execAddHLBC (s : State) : Result := .next (s.addHL .bc)

/-- `DEC BC` (R202). -/
def execDecBC (s : State) : Result := .next (s.decPair .bc)

/-- `INC DE` (R201). -/
def execIncDE (s : State) : Result := .next (s.incPair .de)

/-- `ADD HL,DE` (R200). -/
def execAddHLDE (s : State) : Result := .next (s.addHL .de)

/-- `DEC DE` (R202). -/
def execDecDE (s : State) : Result := .next (s.decPair .de)

/-- `INC HL` (R201). -/
def execIncHL (s : State) : Result := .next (s.incPair .hl)

/-- `ADD HL,HL` (R200). -/
def execAddHLHL (s : State) : Result := .next (s.addHL .hl)

/-- `DEC HL` (R202). -/
def execDecHL (s : State) : Result := .next (s.decPair .hl)

/-- `INC SP` (R201). -/
def execIncSP (s : State) : Result := .next (s.incPair .sp)

/-- `ADD HL,SP` (R200). -/
def execAddHLSP (s : State) : Result := .next (s.addHL .sp)

/-- `DEC SP` (R202). -/
def execDecSP (s : State) : Result := .next (s.decPair .sp)

/-- `ADD SP,e` (R203). -/
def execAddSPE (e : Byte) (s : State) : Result := .next (s.addSPE e)

end Sys2Proof.Machine
end

