-- ==== Sys2Proof/Machine/Alu8.lean ====
section
/-! DEFINITION. 8-bit arithmetic and logic (spec/42_alu8.md). The first operand and the destination are A. -/

namespace Sys2Proof.Machine

/-- An ALU operation on A and the operand `v`: A and all four flags (R161 to R184). -/
def State.alu (s : State) (op : AluOp) (v : Byte) (cost : Nat) : State :=
  let o := aluOut op s.regs.a v s.regs.f
  ((s.setReg .a o.res).setF o.flags).setCost cost

/-- The register form, cost 4. -/
def State.aluReg (s : State) (op : AluOp) (r : Reg8) : State := s.alu op (s.reg r) 4

/-- The `(HL)` form, cost 8. -/
def State.aluIndHL (s : State) (op : AluOp) : State := s.alu op (s.memRead s.hl) 8

/-- The immediate form, cost 8. -/
def State.aluN (s : State) (op : AluOp) (n : Byte) : State := s.alu op n 8

/-- `INC r` (R185). -/
def State.incReg (s : State) (r : Reg8) : State :=
  let o := inc8 (s.reg r) s.regs.f
  ((s.setReg r o.res).setF o.flags).setCost 4

/-- `DEC r` (R187). -/
def State.decReg (s : State) (r : Reg8) : State :=
  let o := dec8 (s.reg r) s.regs.f
  ((s.setReg r o.res).setF o.flags).setCost 4

/-- `INC (HL)`: one read, then one write to the same address (R186, R82). -/
def State.incIndHL (s : State) : State :=
  let o := inc8 (s.memRead s.hl) s.regs.f
  ((s.memWrite s.hl o.res).setF o.flags).setCost 12

/-- `DEC (HL)` (R188). -/
def State.decIndHL (s : State) : State :=
  let o := dec8 (s.memRead s.hl) s.regs.f
  ((s.memWrite s.hl o.res).setF o.flags).setCost 12

/-- `DAA` (R189). -/
def State.decimalAdjust (s : State) : State :=
  let o := daaOut s.regs.a s.regs.f
  ((s.setReg .a o.res).setF o.flags).setCost 4

/-- `CPL` (R190). -/
def State.complementA (s : State) : State :=
  let o := cplOut s.regs.a s.regs.f
  ((s.setReg .a o.res).setF o.flags).setCost 4

/-- `SCF` (R191). -/
def State.setCarry (s : State) : State := (s.setF (scfFlags s.regs.f)).setCost 4

/-- `CCF` (R192). -/
def State.complementCarry (s : State) : State := (s.setF (ccfFlags s.regs.f)).setCost 4

/-- `INC B` (R185). -/
def execIncB (s : State) : Result := .next (s.incReg .b)

/-- `DEC B` (R187). -/
def execDecB (s : State) : Result := .next (s.decReg .b)

/-- `INC C` (R185). -/
def execIncC (s : State) : Result := .next (s.incReg .c)

/-- `DEC C` (R187). -/
def execDecC (s : State) : Result := .next (s.decReg .c)

/-- `INC D` (R185). -/
def execIncD (s : State) : Result := .next (s.incReg .d)

/-- `DEC D` (R187). -/
def execDecD (s : State) : Result := .next (s.decReg .d)

/-- `INC E` (R185). -/
def execIncE (s : State) : Result := .next (s.incReg .e)

/-- `DEC E` (R187). -/
def execDecE (s : State) : Result := .next (s.decReg .e)

/-- `INC H` (R185). -/
def execIncH (s : State) : Result := .next (s.incReg .h)

/-- `DEC H` (R187). -/
def execDecH (s : State) : Result := .next (s.decReg .h)

/-- `DAA` (R189). -/
def execDaa (s : State) : Result := .next (s.decimalAdjust)

/-- `INC L` (R185). -/
def execIncL (s : State) : Result := .next (s.incReg .l)

/-- `DEC L` (R187). -/
def execDecL (s : State) : Result := .next (s.decReg .l)

/-- `CPL` (R190). -/
def execCpl (s : State) : Result := .next (s.complementA)

/-- `INC (HL)` (R186). -/
def execIncIndHL (s : State) : Result := .next (s.incIndHL)

/-- `DEC (HL)` (R188). -/
def execDecIndHL (s : State) : Result := .next (s.decIndHL)

/-- `SCF` (R191). -/
def execScf (s : State) : Result := .next (s.setCarry)

/-- `INC A` (R185). -/
def execIncA (s : State) : Result := .next (s.incReg .a)

/-- `DEC A` (R187). -/
def execDecA (s : State) : Result := .next (s.decReg .a)

/-- `CCF` (R192). -/
def execCcf (s : State) : Result := .next (s.complementCarry)

/-- `ADD A,B` (R161). -/
def execAddAB (s : State) : Result := .next (s.aluReg .add .b)

/-- `ADD A,C` (R161). -/
def execAddAC (s : State) : Result := .next (s.aluReg .add .c)

/-- `ADD A,D` (R161). -/
def execAddAD (s : State) : Result := .next (s.aluReg .add .d)

/-- `ADD A,E` (R161). -/
def execAddAE (s : State) : Result := .next (s.aluReg .add .e)

/-- `ADD A,H` (R161). -/
def execAddAH (s : State) : Result := .next (s.aluReg .add .h)

/-- `ADD A,L` (R161). -/
def execAddAL (s : State) : Result := .next (s.aluReg .add .l)

/-- `ADD A,(HL)` (R162). -/
def execAddAIndHL (s : State) : Result := .next (s.aluIndHL .add)

/-- `ADD A,A` (R161). -/
def execAddAA (s : State) : Result := .next (s.aluReg .add .a)

/-- `ADC A,B` (R164). -/
def execAdcAB (s : State) : Result := .next (s.aluReg .adc .b)

/-- `ADC A,C` (R164). -/
def execAdcAC (s : State) : Result := .next (s.aluReg .adc .c)

/-- `ADC A,D` (R164). -/
def execAdcAD (s : State) : Result := .next (s.aluReg .adc .d)

/-- `ADC A,E` (R164). -/
def execAdcAE (s : State) : Result := .next (s.aluReg .adc .e)

/-- `ADC A,H` (R164). -/
def execAdcAH (s : State) : Result := .next (s.aluReg .adc .h)

/-- `ADC A,L` (R164). -/
def execAdcAL (s : State) : Result := .next (s.aluReg .adc .l)

/-- `ADC A,(HL)` (R165). -/
def execAdcAIndHL (s : State) : Result := .next (s.aluIndHL .adc)

/-- `ADC A,A` (R164). -/
def execAdcAA (s : State) : Result := .next (s.aluReg .adc .a)

/-- `SUB B` (R167). -/
def execSubB (s : State) : Result := .next (s.aluReg .sub .b)

/-- `SUB C` (R167). -/
def execSubC (s : State) : Result := .next (s.aluReg .sub .c)

/-- `SUB D` (R167). -/
def execSubD (s : State) : Result := .next (s.aluReg .sub .d)

/-- `SUB E` (R167). -/
def execSubE (s : State) : Result := .next (s.aluReg .sub .e)

/-- `SUB H` (R167). -/
def execSubH (s : State) : Result := .next (s.aluReg .sub .h)

/-- `SUB L` (R167). -/
def execSubL (s : State) : Result := .next (s.aluReg .sub .l)

/-- `SUB (HL)` (R168). -/
def execSubIndHL (s : State) : Result := .next (s.aluIndHL .sub)

/-- `SUB A` (R167). -/
def execSubA (s : State) : Result := .next (s.aluReg .sub .a)

/-- `SBC A,B` (R170). -/
def execSbcAB (s : State) : Result := .next (s.aluReg .sbc .b)

/-- `SBC A,C` (R170). -/
def execSbcAC (s : State) : Result := .next (s.aluReg .sbc .c)

/-- `SBC A,D` (R170). -/
def execSbcAD (s : State) : Result := .next (s.aluReg .sbc .d)

/-- `SBC A,E` (R170). -/
def execSbcAE (s : State) : Result := .next (s.aluReg .sbc .e)

/-- `SBC A,H` (R170). -/
def execSbcAH (s : State) : Result := .next (s.aluReg .sbc .h)

/-- `SBC A,L` (R170). -/
def execSbcAL (s : State) : Result := .next (s.aluReg .sbc .l)

/-- `SBC A,(HL)` (R171). -/
def execSbcAIndHL (s : State) : Result := .next (s.aluIndHL .sbc)

/-- `SBC A,A` (R170). -/
def execSbcAA (s : State) : Result := .next (s.aluReg .sbc .a)

/-- `AND B` (R173). -/
def execAndB (s : State) : Result := .next (s.aluReg .and .b)

/-- `AND C` (R173). -/
def execAndC (s : State) : Result := .next (s.aluReg .and .c)

/-- `AND D` (R173). -/
def execAndD (s : State) : Result := .next (s.aluReg .and .d)

/-- `AND E` (R173). -/
def execAndE (s : State) : Result := .next (s.aluReg .and .e)

/-- `AND H` (R173). -/
def execAndH (s : State) : Result := .next (s.aluReg .and .h)

/-- `AND L` (R173). -/
def execAndL (s : State) : Result := .next (s.aluReg .and .l)

/-- `AND (HL)` (R174). -/
def execAndIndHL (s : State) : Result := .next (s.aluIndHL .and)

/-- `AND A` (R173). -/
def execAndA (s : State) : Result := .next (s.aluReg .and .a)

/-- `XOR B` (R176). -/
def execXorB (s : State) : Result := .next (s.aluReg .xor .b)

/-- `XOR C` (R176). -/
def execXorC (s : State) : Result := .next (s.aluReg .xor .c)

/-- `XOR D` (R176). -/
def execXorD (s : State) : Result := .next (s.aluReg .xor .d)

/-- `XOR E` (R176). -/
def execXorE (s : State) : Result := .next (s.aluReg .xor .e)

/-- `XOR H` (R176). -/
def execXorH (s : State) : Result := .next (s.aluReg .xor .h)

/-- `XOR L` (R176). -/
def execXorL (s : State) : Result := .next (s.aluReg .xor .l)

/-- `XOR (HL)` (R177). -/
def execXorIndHL (s : State) : Result := .next (s.aluIndHL .xor)

/-- `XOR A` (R176). -/
def execXorA (s : State) : Result := .next (s.aluReg .xor .a)

/-- `OR B` (R179). -/
def execOrB (s : State) : Result := .next (s.aluReg .or .b)

/-- `OR C` (R179). -/
def execOrC (s : State) : Result := .next (s.aluReg .or .c)

/-- `OR D` (R179). -/
def execOrD (s : State) : Result := .next (s.aluReg .or .d)

/-- `OR E` (R179). -/
def execOrE (s : State) : Result := .next (s.aluReg .or .e)

/-- `OR H` (R179). -/
def execOrH (s : State) : Result := .next (s.aluReg .or .h)

/-- `OR L` (R179). -/
def execOrL (s : State) : Result := .next (s.aluReg .or .l)

/-- `OR (HL)` (R180). -/
def execOrIndHL (s : State) : Result := .next (s.aluIndHL .or)

/-- `OR A` (R179). -/
def execOrA (s : State) : Result := .next (s.aluReg .or .a)

/-- `CP B` (R182). -/
def execCpB (s : State) : Result := .next (s.aluReg .cp .b)

/-- `CP C` (R182). -/
def execCpC (s : State) : Result := .next (s.aluReg .cp .c)

/-- `CP D` (R182). -/
def execCpD (s : State) : Result := .next (s.aluReg .cp .d)

/-- `CP E` (R182). -/
def execCpE (s : State) : Result := .next (s.aluReg .cp .e)

/-- `CP H` (R182). -/
def execCpH (s : State) : Result := .next (s.aluReg .cp .h)

/-- `CP L` (R182). -/
def execCpL (s : State) : Result := .next (s.aluReg .cp .l)

/-- `CP (HL)` (R183). -/
def execCpIndHL (s : State) : Result := .next (s.aluIndHL .cp)

/-- `CP A` (R182). -/
def execCpA (s : State) : Result := .next (s.aluReg .cp .a)

/-- `ADD A,n` (R163). -/
def execAddAN (n : Byte) (s : State) : Result := .next (s.aluN .add n)

/-- `ADC A,n` (R166). -/
def execAdcAN (n : Byte) (s : State) : Result := .next (s.aluN .adc n)

/-- `SUB n` (R169). -/
def execSubN (n : Byte) (s : State) : Result := .next (s.aluN .sub n)

/-- `SBC A,n` (R172). -/
def execSbcAN (n : Byte) (s : State) : Result := .next (s.aluN .sbc n)

/-- `AND n` (R175). -/
def execAndN (n : Byte) (s : State) : Result := .next (s.aluN .and n)

/-- `XOR n` (R178). -/
def execXorN (n : Byte) (s : State) : Result := .next (s.aluN .xor n)

/-- `OR n` (R181). -/
def execOrN (n : Byte) (s : State) : Result := .next (s.aluN .or n)

/-- `CP n` (R184). -/
def execCpN (n : Byte) (s : State) : Result := .next (s.aluN .cp n)

end Sys2Proof.Machine
end

