-- ==== Sys2Proof/Machine/Control.lean ====
section
/-! DEFINITION. Control transfer (spec/45_control.md). PC is the address of the byte after the instruction's last byte when a
meaning runs. -/

namespace Sys2Proof.Machine

/-- `JP nn` (R251). -/
def State.jump (s : State) (nn : Word) : State := (s.setPC nn).setCost 16

/-- `JP cc,nn` (R252). -/
def State.jumpIf (s : State) (cc : Cond) (nn : Word) : State :=
  if s.cond cc then (s.setPC nn).setCost 16 else s.setCost 12

/-- `JP HL` (R253). -/
def State.jumpHL (s : State) : State := (s.setPC s.hl).setCost 4

/-- `JR e` (R254). -/
def State.jumpRel (s : State) (e : Byte) : State := (s.setPC (s.regs.pc + sext16 e)).setCost 12

/-- `JR cc,e` (R255). -/
def State.jumpRelIf (s : State) (cc : Cond) (e : Byte) : State :=
  if s.cond cc then (s.setPC (s.regs.pc + sext16 e)).setCost 12 else s.setCost 8

/-- `CALL nn` (R256). -/
def State.call (s : State) (nn : Word) : State := ((s.push16 s.regs.pc).setPC nn).setCost 24

/-- `CALL cc,nn`: nothing is pushed when the condition fails (R257). -/
def State.callIf (s : State) (cc : Cond) (nn : Word) : State :=
  if s.cond cc then ((s.push16 s.regs.pc).setPC nn).setCost 24 else s.setCost 12

/-- `RET` (R258). -/
def State.ret (s : State) : State := (s.popped.setPC s.popValue).setCost 16

/-- `RET cc` (R259). -/
def State.retIf (s : State) (cc : Cond) : State :=
  if s.cond cc then (s.popped.setPC s.popValue).setCost 20 else s.setCost 8

/-- `RST 8*t` (R262). -/
def State.rstCall (s : State) (t : Fin 8) : State :=
  ((s.push16 s.regs.pc).setPC (BitVec.ofNat 16 (8 * t.val))).setCost 16

/-- `JR e` (R254). -/
def execJrE (e : Byte) (s : State) : Result := .next (s.jumpRel e)

/-- `JR NZ,e` (R255). -/
def execJrNZE (e : Byte) (s : State) : Result := .next (s.jumpRelIf .nz e)

/-- `JR Z,e` (R255). -/
def execJrZE (e : Byte) (s : State) : Result := .next (s.jumpRelIf .z e)

/-- `JR NC,e` (R255). -/
def execJrNCE (e : Byte) (s : State) : Result := .next (s.jumpRelIf .nc e)

/-- `JR C,e` (R255). -/
def execJrCE (e : Byte) (s : State) : Result := .next (s.jumpRelIf .c e)

/-- `RET NZ` (R259). -/
def execRetNZ (s : State) : Result := .next (s.retIf .nz)

/-- `JP NZ,nn` (R252). -/
def execJpNZNn (nn : Word) (s : State) : Result := .next (s.jumpIf .nz nn)

/-- `JP nn` (R251). -/
def execJpNn (nn : Word) (s : State) : Result := .next (s.jump nn)

/-- `CALL NZ,nn` (R257). -/
def execCallNZNn (nn : Word) (s : State) : Result := .next (s.callIf .nz nn)

/-- `RST 0x00` (R262). -/
def execRst00 (s : State) : Result := .next (s.rstCall 0)

/-- `RET Z` (R259). -/
def execRetZ (s : State) : Result := .next (s.retIf .z)

/-- `RET` (R258). -/
def execRet (s : State) : Result := .next (s.ret)

/-- `JP Z,nn` (R252). -/
def execJpZNn (nn : Word) (s : State) : Result := .next (s.jumpIf .z nn)

/-- `CALL Z,nn` (R257). -/
def execCallZNn (nn : Word) (s : State) : Result := .next (s.callIf .z nn)

/-- `CALL nn` (R256). -/
def execCallNn (nn : Word) (s : State) : Result := .next (s.call nn)

/-- `RST 0x08` (R262). -/
def execRst08 (s : State) : Result := .next (s.rstCall 1)

/-- `RET NC` (R259). -/
def execRetNC (s : State) : Result := .next (s.retIf .nc)

/-- `JP NC,nn` (R252). -/
def execJpNCNn (nn : Word) (s : State) : Result := .next (s.jumpIf .nc nn)

/-- `CALL NC,nn` (R257). -/
def execCallNCNn (nn : Word) (s : State) : Result := .next (s.callIf .nc nn)

/-- `RST 0x10` (R262). -/
def execRst10 (s : State) : Result := .next (s.rstCall 2)

/-- `RET C` (R259). -/
def execRetC (s : State) : Result := .next (s.retIf .c)

/-- `RETI` (R260). -/
def execReti (s : State) : Result := .next (s.returnFromInterrupt.setCost 16)

/-- `JP C,nn` (R252). -/
def execJpCNn (nn : Word) (s : State) : Result := .next (s.jumpIf .c nn)

/-- `CALL C,nn` (R257). -/
def execCallCNn (nn : Word) (s : State) : Result := .next (s.callIf .c nn)

/-- `RST 0x18` (R262). -/
def execRst18 (s : State) : Result := .next (s.rstCall 3)

/-- `RST 0x20` (R262). -/
def execRst20 (s : State) : Result := .next (s.rstCall 4)

/-- `JP HL` (R253). -/
def execJpHL (s : State) : Result := .next (s.jumpHL)

/-- `RST 0x28` (R262). -/
def execRst28 (s : State) : Result := .next (s.rstCall 5)

/-- `RST 0x30` (R262). -/
def execRst30 (s : State) : Result := .next (s.rstCall 6)

/-- `RST 0x38` (R262). -/
def execRst38 (s : State) : Result := .next (s.rstCall 7)

end Sys2Proof.Machine
end

