-- ==== Sys2Proof/Machine/Load16.lean ====
section
/-! DEFINITION. The 16-bit loads and the stack instructions (spec/41_load16.md). -/

namespace Sys2Proof.Machine

/-- `rr <- nn` (R140). -/
def State.loadPairNn (s : State) (p : Pair) (nn : Word) : State := (s.setPair p nn).setCost 12

/-- SP stored at `nn`, low byte first; the two writes are separate (R141, R52). -/
def State.storeSP (s : State) (nn : Word) : State :=
  ((s.memWrite nn (loByte s.regs.sp)).memWrite (nn + 1) (hiByte s.regs.sp)).setCost 20

/-- `SP <- HL` (R142). -/
def State.loadSPHL (s : State) : State := (s.setSP s.hl).setCost 8

/-- `HL <- SP + e` with the flags of the unsigned low-byte addition (R143). -/
def State.loadHLSPE (s : State) (e : Byte) : State :=
  ((s.setHL (s.regs.sp + sext16 e)).setF (addSPFlags s.regs.sp e)).setCost 12

/-- `Push16(qq)` (R144). -/
def State.pushPair (s : State) (q : StackPair) : State := (s.push16 (s.stackPair q)).setCost 16

/-- `qq <- Pop16()` (R145). -/
def State.popPair (s : State) (q : StackPair) : State := (s.popped.setStackPair q s.popValue).setCost 12

/-- `LD BC,nn` (R140). -/
def execLdBCNn (nn : Word) (s : State) : Result := .next (s.loadPairNn .bc nn)

/-- `LD (nn),SP` (R141). -/
def execLdIndNnSP (nn : Word) (s : State) : Result := .next (s.storeSP nn)

/-- `LD DE,nn` (R140). -/
def execLdDENn (nn : Word) (s : State) : Result := .next (s.loadPairNn .de nn)

/-- `LD HL,nn` (R140). -/
def execLdHLNn (nn : Word) (s : State) : Result := .next (s.loadPairNn .hl nn)

/-- `LD SP,nn` (R140). -/
def execLdSPNn (nn : Word) (s : State) : Result := .next (s.loadPairNn .sp nn)

/-- `POP BC` (R145). -/
def execPopBC (s : State) : Result := .next (s.popPair .bc)

/-- `PUSH BC` (R144). -/
def execPushBC (s : State) : Result := .next (s.pushPair .bc)

/-- `POP DE` (R145). -/
def execPopDE (s : State) : Result := .next (s.popPair .de)

/-- `PUSH DE` (R144). -/
def execPushDE (s : State) : Result := .next (s.pushPair .de)

/-- `POP HL` (R145). -/
def execPopHL (s : State) : Result := .next (s.popPair .hl)

/-- `PUSH HL` (R144). -/
def execPushHL (s : State) : Result := .next (s.pushPair .hl)

/-- `POP AF` (R145). -/
def execPopAF (s : State) : Result := .next (s.popPair .af)

/-- `PUSH AF` (R144). -/
def execPushAF (s : State) : Result := .next (s.pushPair .af)

/-- `LD HL,SP+e` (R143). -/
def execLdHLSPE (e : Byte) (s : State) : Result := .next (s.loadHLSPE e)

/-- `LD SP,HL` (R142). -/
def execLdSPHL (s : State) : Result := .next (s.loadSPHL)

end Sys2Proof.Machine
end

