-- ==== Sys2Proof/Machine/Load8.lean ====
section
/-! DEFINITION. The 8-bit loads (spec/40_load8.md). No 8-bit load reads or writes a flag. PC has already been advanced past the
instruction when a meaning runs (R14). -/

namespace Sys2Proof.Machine

/-- An address in the high page, `0xFF00 + n` (R121, R123). -/
def highPage (n : Byte) : Word := 0xFF00 + zext16 n

/-- `x[dst] <- x[src]` (R110). -/
def State.loadReg (s : State) (dst src : Reg8) : State := (s.setReg dst (s.reg src)).setCost 4

/-- `x[r] <- n` (R111). -/
def State.loadRegN (s : State) (r : Reg8) (n : Byte) : State := (s.setReg r n).setCost 8

/-- `x[r] <- MemRead(HL, 1)` (R112). -/
def State.loadRegIndHL (s : State) (r : Reg8) : State := (s.setReg r (s.memRead s.hl)).setCost 8

/-- `MemWrite(HL, 1, x[r])` (R113). -/
def State.storeIndHLReg (s : State) (r : Reg8) : State := (s.memWrite s.hl (s.reg r)).setCost 8

/-- `MemWrite(HL, 1, n)` (R114). -/
def State.storeIndHLN (s : State) (n : Byte) : State := (s.memWrite s.hl n).setCost 12

/-- `A <- MemRead(addr, 1)` (R115, R116, R119, R121, R123). -/
def State.loadA (s : State) (addr : Word) (cost : Nat) : State := (s.setReg .a (s.memRead addr)).setCost cost

/-- `MemWrite(addr, 1, A)` (R117, R118, R120, R122, R124). -/
def State.storeA (s : State) (addr : Word) (cost : Nat) : State := (s.memWrite addr s.regs.a).setCost cost

/-- `A <- MemRead(HL, 1)`, then HL moves by `d` modulo 2^16 (R125, R126). -/
def State.loadAMoveHL (s : State) (d : Word) : State := ((s.setReg .a (s.memRead s.hl)).setHL (s.hl + d)).setCost 8

/-- `MemWrite(HL, 1, A)`, then HL moves by `d` modulo 2^16 (R127, R128). -/
def State.storeAMoveHL (s : State) (d : Word) : State := ((s.memWrite s.hl s.regs.a).setHL (s.hl + d)).setCost 8

/-- `LD (BC),A` (R117). -/
def execLdIndBCA (s : State) : Result := .next (s.storeA s.bc 8)

/-- `LD B,n` (R111). -/
def execLdBN (n : Byte) (s : State) : Result := .next (s.loadRegN .b n)

/-- `LD A,(BC)` (R115). -/
def execLdAIndBC (s : State) : Result := .next (s.loadA s.bc 8)

/-- `LD C,n` (R111). -/
def execLdCN (n : Byte) (s : State) : Result := .next (s.loadRegN .c n)

/-- `LD (DE),A` (R118). -/
def execLdIndDEA (s : State) : Result := .next (s.storeA s.de 8)

/-- `LD D,n` (R111). -/
def execLdDN (n : Byte) (s : State) : Result := .next (s.loadRegN .d n)

/-- `LD A,(DE)` (R116). -/
def execLdAIndDE (s : State) : Result := .next (s.loadA s.de 8)

/-- `LD E,n` (R111). -/
def execLdEN (n : Byte) (s : State) : Result := .next (s.loadRegN .e n)

/-- `LD (HL+),A` (R127). -/
def execLdIndHLIncA (s : State) : Result := .next (s.storeAMoveHL 1)

/-- `LD H,n` (R111). -/
def execLdHN (n : Byte) (s : State) : Result := .next (s.loadRegN .h n)

/-- `LD A,(HL+)` (R125). -/
def execLdAIndHLInc (s : State) : Result := .next (s.loadAMoveHL 1)

/-- `LD L,n` (R111). -/
def execLdLN (n : Byte) (s : State) : Result := .next (s.loadRegN .l n)

/-- `LD (HL-),A` (R128). -/
def execLdIndHLDecA (s : State) : Result := .next (s.storeAMoveHL (-1))

/-- `LD (HL),n` (R114). -/
def execLdIndHLN (n : Byte) (s : State) : Result := .next (s.storeIndHLN n)

/-- `LD A,(HL-)` (R126). -/
def execLdAIndHLDec (s : State) : Result := .next (s.loadAMoveHL (-1))

/-- `LD A,n` (R111). -/
def execLdAN (n : Byte) (s : State) : Result := .next (s.loadRegN .a n)

/-- `LD B,B` (R110). -/
def execLdBB (s : State) : Result := .next (s.loadReg .b .b)

/-- `LD B,C` (R110). -/
def execLdBC (s : State) : Result := .next (s.loadReg .b .c)

/-- `LD B,D` (R110). -/
def execLdBD (s : State) : Result := .next (s.loadReg .b .d)

/-- `LD B,E` (R110). -/
def execLdBE (s : State) : Result := .next (s.loadReg .b .e)

/-- `LD B,H` (R110). -/
def execLdBH (s : State) : Result := .next (s.loadReg .b .h)

/-- `LD B,L` (R110). -/
def execLdBL (s : State) : Result := .next (s.loadReg .b .l)

/-- `LD B,(HL)` (R112). -/
def execLdBIndHL (s : State) : Result := .next (s.loadRegIndHL .b)

/-- `LD B,A` (R110). -/
def execLdBA (s : State) : Result := .next (s.loadReg .b .a)

/-- `LD C,B` (R110). -/
def execLdCB (s : State) : Result := .next (s.loadReg .c .b)

/-- `LD C,C` (R110). -/
def execLdCC (s : State) : Result := .next (s.loadReg .c .c)

/-- `LD C,D` (R110). -/
def execLdCD (s : State) : Result := .next (s.loadReg .c .d)

/-- `LD C,E` (R110). -/
def execLdCE (s : State) : Result := .next (s.loadReg .c .e)

/-- `LD C,H` (R110). -/
def execLdCH (s : State) : Result := .next (s.loadReg .c .h)

/-- `LD C,L` (R110). -/
def execLdCL (s : State) : Result := .next (s.loadReg .c .l)

/-- `LD C,(HL)` (R112). -/
def execLdCIndHL (s : State) : Result := .next (s.loadRegIndHL .c)

/-- `LD C,A` (R110). -/
def execLdCA (s : State) : Result := .next (s.loadReg .c .a)

/-- `LD D,B` (R110). -/
def execLdDB (s : State) : Result := .next (s.loadReg .d .b)

/-- `LD D,C` (R110). -/
def execLdDC (s : State) : Result := .next (s.loadReg .d .c)

/-- `LD D,D` (R110). -/
def execLdDD (s : State) : Result := .next (s.loadReg .d .d)

/-- `LD D,E` (R110). -/
def execLdDE (s : State) : Result := .next (s.loadReg .d .e)

/-- `LD D,H` (R110). -/
def execLdDH (s : State) : Result := .next (s.loadReg .d .h)

/-- `LD D,L` (R110). -/
def execLdDL (s : State) : Result := .next (s.loadReg .d .l)

/-- `LD D,(HL)` (R112). -/
def execLdDIndHL (s : State) : Result := .next (s.loadRegIndHL .d)

/-- `LD D,A` (R110). -/
def execLdDA (s : State) : Result := .next (s.loadReg .d .a)

/-- `LD E,B` (R110). -/
def execLdEB (s : State) : Result := .next (s.loadReg .e .b)

/-- `LD E,C` (R110). -/
def execLdEC (s : State) : Result := .next (s.loadReg .e .c)

/-- `LD E,D` (R110). -/
def execLdED (s : State) : Result := .next (s.loadReg .e .d)

/-- `LD E,E` (R110). -/
def execLdEE (s : State) : Result := .next (s.loadReg .e .e)

/-- `LD E,H` (R110). -/
def execLdEH (s : State) : Result := .next (s.loadReg .e .h)

/-- `LD E,L` (R110). -/
def execLdEL (s : State) : Result := .next (s.loadReg .e .l)

/-- `LD E,(HL)` (R112). -/
def execLdEIndHL (s : State) : Result := .next (s.loadRegIndHL .e)

/-- `LD E,A` (R110). -/
def execLdEA (s : State) : Result := .next (s.loadReg .e .a)

/-- `LD H,B` (R110). -/
def execLdHB (s : State) : Result := .next (s.loadReg .h .b)

/-- `LD H,C` (R110). -/
def execLdHC (s : State) : Result := .next (s.loadReg .h .c)

/-- `LD H,D` (R110). -/
def execLdHD (s : State) : Result := .next (s.loadReg .h .d)

/-- `LD H,E` (R110). -/
def execLdHE (s : State) : Result := .next (s.loadReg .h .e)

/-- `LD H,H` (R110). -/
def execLdHH (s : State) : Result := .next (s.loadReg .h .h)

/-- `LD H,L` (R110). -/
def execLdHL (s : State) : Result := .next (s.loadReg .h .l)

/-- `LD H,(HL)` (R112). -/
def execLdHIndHL (s : State) : Result := .next (s.loadRegIndHL .h)

/-- `LD H,A` (R110). -/
def execLdHA (s : State) : Result := .next (s.loadReg .h .a)

/-- `LD L,B` (R110). -/
def execLdLB (s : State) : Result := .next (s.loadReg .l .b)

/-- `LD L,C` (R110). -/
def execLdLC (s : State) : Result := .next (s.loadReg .l .c)

/-- `LD L,D` (R110). -/
def execLdLD (s : State) : Result := .next (s.loadReg .l .d)

/-- `LD L,E` (R110). -/
def execLdLE (s : State) : Result := .next (s.loadReg .l .e)

/-- `LD L,H` (R110). -/
def execLdLH (s : State) : Result := .next (s.loadReg .l .h)

/-- `LD L,L` (R110). -/
def execLdLL (s : State) : Result := .next (s.loadReg .l .l)

/-- `LD L,(HL)` (R112). -/
def execLdLIndHL (s : State) : Result := .next (s.loadRegIndHL .l)

/-- `LD L,A` (R110). -/
def execLdLA (s : State) : Result := .next (s.loadReg .l .a)

/-- `LD (HL),B` (R113). -/
def execLdIndHLB (s : State) : Result := .next (s.storeIndHLReg .b)

/-- `LD (HL),C` (R113). -/
def execLdIndHLC (s : State) : Result := .next (s.storeIndHLReg .c)

/-- `LD (HL),D` (R113). -/
def execLdIndHLD (s : State) : Result := .next (s.storeIndHLReg .d)

/-- `LD (HL),E` (R113). -/
def execLdIndHLE (s : State) : Result := .next (s.storeIndHLReg .e)

/-- `LD (HL),H` (R113). -/
def execLdIndHLH (s : State) : Result := .next (s.storeIndHLReg .h)

/-- `LD (HL),L` (R113). -/
def execLdIndHLL (s : State) : Result := .next (s.storeIndHLReg .l)

/-- `LD (HL),A` (R113). -/
def execLdIndHLA (s : State) : Result := .next (s.storeIndHLReg .a)

/-- `LD A,B` (R110). -/
def execLdAB (s : State) : Result := .next (s.loadReg .a .b)

/-- `LD A,C` (R110). -/
def execLdAC (s : State) : Result := .next (s.loadReg .a .c)

/-- `LD A,D` (R110). -/
def execLdAD (s : State) : Result := .next (s.loadReg .a .d)

/-- `LD A,E` (R110). -/
def execLdAE (s : State) : Result := .next (s.loadReg .a .e)

/-- `LD A,H` (R110). -/
def execLdAH (s : State) : Result := .next (s.loadReg .a .h)

/-- `LD A,L` (R110). -/
def execLdAL (s : State) : Result := .next (s.loadReg .a .l)

/-- `LD A,(HL)` (R112). -/
def execLdAIndHL (s : State) : Result := .next (s.loadRegIndHL .a)

/-- `LD A,A` (R110). -/
def execLdAA (s : State) : Result := .next (s.loadReg .a .a)

/-- `LDH (n),A` (R124). -/
def execLdhNA (n : Byte) (s : State) : Result := .next (s.storeA (highPage n) 12)

/-- `LDH (C),A` (R122). -/
def execLdhCA (s : State) : Result := .next (s.storeA (highPage s.regs.c) 8)

/-- `LD (nn),A` (R120). -/
def execLdIndNnA (nn : Word) (s : State) : Result := .next (s.storeA nn 16)

/-- `LDH A,(n)` (R123). -/
def execLdhAN (n : Byte) (s : State) : Result := .next (s.loadA (highPage n) 12)

/-- `LDH A,(C)` (R121). -/
def execLdhAC (s : State) : Result := .next (s.loadA (highPage s.regs.c) 8)

/-- `LD A,(nn)` (R119). -/
def execLdAIndNn (nn : Word) (s : State) : Result := .next (s.loadA nn 16)

end Sys2Proof.Machine
end

