-- ==== Sys2Proof/Machine/RotateShift.lean ====
section
/-! DEFINITION. Rotates, shifts, SWAP and the bit instructions (spec/44_rotate_shift_bit.md). -/

namespace Sys2Proof.Machine

/-- The accumulator rotates of the primary table: Z is always cleared (R210 to R213). -/
def State.rotateA (s : State) (op : RotOp) : State :=
  let o := rotAOut op s.regs.a s.regs.f
  ((s.setReg .a o.res).setF o.flags).setCost 4

/-- A prefixed rotate or shift on a register (R216 to R230). -/
def State.rotReg (s : State) (op : RotOp) (r : Reg8) : State :=
  let o := rotOut op (s.reg r) s.regs.f
  ((s.setReg r o.res).setF o.flags).setCost 8

/-- A prefixed rotate or shift on the byte at HL: one read, then one write (R217 to R231). -/
def State.rotIndHL (s : State) (op : RotOp) : State :=
  let o := rotOut op (s.memRead s.hl) s.regs.f
  ((s.memWrite s.hl o.res).setF o.flags).setCost 16

/-- `BIT b,r` (R232). -/
def State.testBitReg (s : State) (b : Fin 8) (r : Reg8) : State := (s.setF (bitFlags b (s.reg r) s.regs.f)).setCost 8

/-- `BIT b,(HL)`: no write (R233). -/
def State.testBitIndHL (s : State) (b : Fin 8) : State := (s.setF (bitFlags b (s.memRead s.hl) s.regs.f)).setCost 12

/-- `RES b,r` (R234). -/
def State.clearBitReg (s : State) (b : Fin 8) (r : Reg8) : State := (s.setReg r (resBit b (s.reg r))).setCost 8

/-- `RES b,(HL)`: the write happens even when the bit was already clear (R235). -/
def State.clearBitIndHL (s : State) (b : Fin 8) : State := (s.memWrite s.hl (resBit b (s.memRead s.hl))).setCost 16

/-- `SET b,r` (R236). -/
def State.setBitReg (s : State) (b : Fin 8) (r : Reg8) : State := (s.setReg r (setBit b (s.reg r))).setCost 8

/-- `SET b,(HL)` (R237). -/
def State.setBitIndHL (s : State) (b : Fin 8) : State := (s.memWrite s.hl (setBit b (s.memRead s.hl))).setCost 16

/-- `RLCA` (R210). -/
def execRlca (s : State) : Result := .next (s.rotateA .rlc)

/-- `RRCA` (R211). -/
def execRrca (s : State) : Result := .next (s.rotateA .rrc)

/-- `RLA` (R212). -/
def execRla (s : State) : Result := .next (s.rotateA .rl)

/-- `RRA` (R213). -/
def execRra (s : State) : Result := .next (s.rotateA .rr)

/-- `RLC B` (R216). -/
def execRlcB (s : State) : Result := .next (s.rotReg .rlc .b)

/-- `RLC C` (R216). -/
def execRlcC (s : State) : Result := .next (s.rotReg .rlc .c)

/-- `RLC D` (R216). -/
def execRlcD (s : State) : Result := .next (s.rotReg .rlc .d)

/-- `RLC E` (R216). -/
def execRlcE (s : State) : Result := .next (s.rotReg .rlc .e)

/-- `RLC H` (R216). -/
def execRlcH (s : State) : Result := .next (s.rotReg .rlc .h)

/-- `RLC L` (R216). -/
def execRlcL (s : State) : Result := .next (s.rotReg .rlc .l)

/-- `RLC (HL)` (R217). -/
def execRlcIndHL (s : State) : Result := .next (s.rotIndHL .rlc)

/-- `RLC A` (R216). -/
def execRlcA (s : State) : Result := .next (s.rotReg .rlc .a)

/-- `RRC B` (R218). -/
def execRrcB (s : State) : Result := .next (s.rotReg .rrc .b)

/-- `RRC C` (R218). -/
def execRrcC (s : State) : Result := .next (s.rotReg .rrc .c)

/-- `RRC D` (R218). -/
def execRrcD (s : State) : Result := .next (s.rotReg .rrc .d)

/-- `RRC E` (R218). -/
def execRrcE (s : State) : Result := .next (s.rotReg .rrc .e)

/-- `RRC H` (R218). -/
def execRrcH (s : State) : Result := .next (s.rotReg .rrc .h)

/-- `RRC L` (R218). -/
def execRrcL (s : State) : Result := .next (s.rotReg .rrc .l)

/-- `RRC (HL)` (R219). -/
def execRrcIndHL (s : State) : Result := .next (s.rotIndHL .rrc)

/-- `RRC A` (R218). -/
def execRrcA (s : State) : Result := .next (s.rotReg .rrc .a)

/-- `RL B` (R220). -/
def execRlB (s : State) : Result := .next (s.rotReg .rl .b)

/-- `RL C` (R220). -/
def execRlC (s : State) : Result := .next (s.rotReg .rl .c)

/-- `RL D` (R220). -/
def execRlD (s : State) : Result := .next (s.rotReg .rl .d)

/-- `RL E` (R220). -/
def execRlE (s : State) : Result := .next (s.rotReg .rl .e)

/-- `RL H` (R220). -/
def execRlH (s : State) : Result := .next (s.rotReg .rl .h)

/-- `RL L` (R220). -/
def execRlL (s : State) : Result := .next (s.rotReg .rl .l)

/-- `RL (HL)` (R221). -/
def execRlIndHL (s : State) : Result := .next (s.rotIndHL .rl)

/-- `RL A` (R220). -/
def execRlA (s : State) : Result := .next (s.rotReg .rl .a)

/-- `RR B` (R222). -/
def execRrB (s : State) : Result := .next (s.rotReg .rr .b)

/-- `RR C` (R222). -/
def execRrC (s : State) : Result := .next (s.rotReg .rr .c)

/-- `RR D` (R222). -/
def execRrD (s : State) : Result := .next (s.rotReg .rr .d)

/-- `RR E` (R222). -/
def execRrE (s : State) : Result := .next (s.rotReg .rr .e)

/-- `RR H` (R222). -/
def execRrH (s : State) : Result := .next (s.rotReg .rr .h)

/-- `RR L` (R222). -/
def execRrL (s : State) : Result := .next (s.rotReg .rr .l)

/-- `RR (HL)` (R223). -/
def execRrIndHL (s : State) : Result := .next (s.rotIndHL .rr)

/-- `RR A` (R222). -/
def execRrA (s : State) : Result := .next (s.rotReg .rr .a)

/-- `SLA B` (R224). -/
def execSlaB (s : State) : Result := .next (s.rotReg .sla .b)

/-- `SLA C` (R224). -/
def execSlaC (s : State) : Result := .next (s.rotReg .sla .c)

/-- `SLA D` (R224). -/
def execSlaD (s : State) : Result := .next (s.rotReg .sla .d)

/-- `SLA E` (R224). -/
def execSlaE (s : State) : Result := .next (s.rotReg .sla .e)

/-- `SLA H` (R224). -/
def execSlaH (s : State) : Result := .next (s.rotReg .sla .h)

/-- `SLA L` (R224). -/
def execSlaL (s : State) : Result := .next (s.rotReg .sla .l)

/-- `SLA (HL)` (R225). -/
def execSlaIndHL (s : State) : Result := .next (s.rotIndHL .sla)

/-- `SLA A` (R224). -/
def execSlaA (s : State) : Result := .next (s.rotReg .sla .a)

/-- `SRA B` (R226). -/
def execSraB (s : State) : Result := .next (s.rotReg .sra .b)

/-- `SRA C` (R226). -/
def execSraC (s : State) : Result := .next (s.rotReg .sra .c)

/-- `SRA D` (R226). -/
def execSraD (s : State) : Result := .next (s.rotReg .sra .d)

/-- `SRA E` (R226). -/
def execSraE (s : State) : Result := .next (s.rotReg .sra .e)

/-- `SRA H` (R226). -/
def execSraH (s : State) : Result := .next (s.rotReg .sra .h)

/-- `SRA L` (R226). -/
def execSraL (s : State) : Result := .next (s.rotReg .sra .l)

/-- `SRA (HL)` (R227). -/
def execSraIndHL (s : State) : Result := .next (s.rotIndHL .sra)

/-- `SRA A` (R226). -/
def execSraA (s : State) : Result := .next (s.rotReg .sra .a)

/-- `SWAP B` (R228). -/
def execSwapB (s : State) : Result := .next (s.rotReg .swap .b)

/-- `SWAP C` (R228). -/
def execSwapC (s : State) : Result := .next (s.rotReg .swap .c)

/-- `SWAP D` (R228). -/
def execSwapD (s : State) : Result := .next (s.rotReg .swap .d)

/-- `SWAP E` (R228). -/
def execSwapE (s : State) : Result := .next (s.rotReg .swap .e)

/-- `SWAP H` (R228). -/
def execSwapH (s : State) : Result := .next (s.rotReg .swap .h)

/-- `SWAP L` (R228). -/
def execSwapL (s : State) : Result := .next (s.rotReg .swap .l)

/-- `SWAP (HL)` (R229). -/
def execSwapIndHL (s : State) : Result := .next (s.rotIndHL .swap)

/-- `SWAP A` (R228). -/
def execSwapA (s : State) : Result := .next (s.rotReg .swap .a)

/-- `SRL B` (R230). -/
def execSrlB (s : State) : Result := .next (s.rotReg .srl .b)

/-- `SRL C` (R230). -/
def execSrlC (s : State) : Result := .next (s.rotReg .srl .c)

/-- `SRL D` (R230). -/
def execSrlD (s : State) : Result := .next (s.rotReg .srl .d)

/-- `SRL E` (R230). -/
def execSrlE (s : State) : Result := .next (s.rotReg .srl .e)

/-- `SRL H` (R230). -/
def execSrlH (s : State) : Result := .next (s.rotReg .srl .h)

/-- `SRL L` (R230). -/
def execSrlL (s : State) : Result := .next (s.rotReg .srl .l)

/-- `SRL (HL)` (R231). -/
def execSrlIndHL (s : State) : Result := .next (s.rotIndHL .srl)

/-- `SRL A` (R230). -/
def execSrlA (s : State) : Result := .next (s.rotReg .srl .a)

/-- `BIT 0,B` (R232). -/
def execBit0B (s : State) : Result := .next (s.testBitReg 0 .b)

/-- `BIT 0,C` (R232). -/
def execBit0C (s : State) : Result := .next (s.testBitReg 0 .c)

/-- `BIT 0,D` (R232). -/
def execBit0D (s : State) : Result := .next (s.testBitReg 0 .d)

/-- `BIT 0,E` (R232). -/
def execBit0E (s : State) : Result := .next (s.testBitReg 0 .e)

/-- `BIT 0,H` (R232). -/
def execBit0H (s : State) : Result := .next (s.testBitReg 0 .h)

/-- `BIT 0,L` (R232). -/
def execBit0L (s : State) : Result := .next (s.testBitReg 0 .l)

/-- `BIT 0,(HL)` (R233). -/
def execBit0IndHL (s : State) : Result := .next (s.testBitIndHL 0)

/-- `BIT 0,A` (R232). -/
def execBit0A (s : State) : Result := .next (s.testBitReg 0 .a)

/-- `BIT 1,B` (R232). -/
def execBit1B (s : State) : Result := .next (s.testBitReg 1 .b)

/-- `BIT 1,C` (R232). -/
def execBit1C (s : State) : Result := .next (s.testBitReg 1 .c)

/-- `BIT 1,D` (R232). -/
def execBit1D (s : State) : Result := .next (s.testBitReg 1 .d)

/-- `BIT 1,E` (R232). -/
def execBit1E (s : State) : Result := .next (s.testBitReg 1 .e)

/-- `BIT 1,H` (R232). -/
def execBit1H (s : State) : Result := .next (s.testBitReg 1 .h)

/-- `BIT 1,L` (R232). -/
def execBit1L (s : State) : Result := .next (s.testBitReg 1 .l)

/-- `BIT 1,(HL)` (R233). -/
def execBit1IndHL (s : State) : Result := .next (s.testBitIndHL 1)

/-- `BIT 1,A` (R232). -/
def execBit1A (s : State) : Result := .next (s.testBitReg 1 .a)

/-- `BIT 2,B` (R232). -/
def execBit2B (s : State) : Result := .next (s.testBitReg 2 .b)

/-- `BIT 2,C` (R232). -/
def execBit2C (s : State) : Result := .next (s.testBitReg 2 .c)

/-- `BIT 2,D` (R232). -/
def execBit2D (s : State) : Result := .next (s.testBitReg 2 .d)

/-- `BIT 2,E` (R232). -/
def execBit2E (s : State) : Result := .next (s.testBitReg 2 .e)

/-- `BIT 2,H` (R232). -/
def execBit2H (s : State) : Result := .next (s.testBitReg 2 .h)

/-- `BIT 2,L` (R232). -/
def execBit2L (s : State) : Result := .next (s.testBitReg 2 .l)

/-- `BIT 2,(HL)` (R233). -/
def execBit2IndHL (s : State) : Result := .next (s.testBitIndHL 2)

/-- `BIT 2,A` (R232). -/
def execBit2A (s : State) : Result := .next (s.testBitReg 2 .a)

/-- `BIT 3,B` (R232). -/
def execBit3B (s : State) : Result := .next (s.testBitReg 3 .b)

/-- `BIT 3,C` (R232). -/
def execBit3C (s : State) : Result := .next (s.testBitReg 3 .c)

/-- `BIT 3,D` (R232). -/
def execBit3D (s : State) : Result := .next (s.testBitReg 3 .d)

/-- `BIT 3,E` (R232). -/
def execBit3E (s : State) : Result := .next (s.testBitReg 3 .e)

/-- `BIT 3,H` (R232). -/
def execBit3H (s : State) : Result := .next (s.testBitReg 3 .h)

/-- `BIT 3,L` (R232). -/
def execBit3L (s : State) : Result := .next (s.testBitReg 3 .l)

/-- `BIT 3,(HL)` (R233). -/
def execBit3IndHL (s : State) : Result := .next (s.testBitIndHL 3)

/-- `BIT 3,A` (R232). -/
def execBit3A (s : State) : Result := .next (s.testBitReg 3 .a)

/-- `BIT 4,B` (R232). -/
def execBit4B (s : State) : Result := .next (s.testBitReg 4 .b)

/-- `BIT 4,C` (R232). -/
def execBit4C (s : State) : Result := .next (s.testBitReg 4 .c)

/-- `BIT 4,D` (R232). -/
def execBit4D (s : State) : Result := .next (s.testBitReg 4 .d)

/-- `BIT 4,E` (R232). -/
def execBit4E (s : State) : Result := .next (s.testBitReg 4 .e)

/-- `BIT 4,H` (R232). -/
def execBit4H (s : State) : Result := .next (s.testBitReg 4 .h)

/-- `BIT 4,L` (R232). -/
def execBit4L (s : State) : Result := .next (s.testBitReg 4 .l)

/-- `BIT 4,(HL)` (R233). -/
def execBit4IndHL (s : State) : Result := .next (s.testBitIndHL 4)

/-- `BIT 4,A` (R232). -/
def execBit4A (s : State) : Result := .next (s.testBitReg 4 .a)

/-- `BIT 5,B` (R232). -/
def execBit5B (s : State) : Result := .next (s.testBitReg 5 .b)

/-- `BIT 5,C` (R232). -/
def execBit5C (s : State) : Result := .next (s.testBitReg 5 .c)

/-- `BIT 5,D` (R232). -/
def execBit5D (s : State) : Result := .next (s.testBitReg 5 .d)

/-- `BIT 5,E` (R232). -/
def execBit5E (s : State) : Result := .next (s.testBitReg 5 .e)

/-- `BIT 5,H` (R232). -/
def execBit5H (s : State) : Result := .next (s.testBitReg 5 .h)

/-- `BIT 5,L` (R232). -/
def execBit5L (s : State) : Result := .next (s.testBitReg 5 .l)

/-- `BIT 5,(HL)` (R233). -/
def execBit5IndHL (s : State) : Result := .next (s.testBitIndHL 5)

/-- `BIT 5,A` (R232). -/
def execBit5A (s : State) : Result := .next (s.testBitReg 5 .a)

/-- `BIT 6,B` (R232). -/
def execBit6B (s : State) : Result := .next (s.testBitReg 6 .b)

/-- `BIT 6,C` (R232). -/
def execBit6C (s : State) : Result := .next (s.testBitReg 6 .c)

/-- `BIT 6,D` (R232). -/
def execBit6D (s : State) : Result := .next (s.testBitReg 6 .d)

/-- `BIT 6,E` (R232). -/
def execBit6E (s : State) : Result := .next (s.testBitReg 6 .e)

/-- `BIT 6,H` (R232). -/
def execBit6H (s : State) : Result := .next (s.testBitReg 6 .h)

/-- `BIT 6,L` (R232). -/
def execBit6L (s : State) : Result := .next (s.testBitReg 6 .l)

/-- `BIT 6,(HL)` (R233). -/
def execBit6IndHL (s : State) : Result := .next (s.testBitIndHL 6)

/-- `BIT 6,A` (R232). -/
def execBit6A (s : State) : Result := .next (s.testBitReg 6 .a)

/-- `BIT 7,B` (R232). -/
def execBit7B (s : State) : Result := .next (s.testBitReg 7 .b)

/-- `BIT 7,C` (R232). -/
def execBit7C (s : State) : Result := .next (s.testBitReg 7 .c)

/-- `BIT 7,D` (R232). -/
def execBit7D (s : State) : Result := .next (s.testBitReg 7 .d)

/-- `BIT 7,E` (R232). -/
def execBit7E (s : State) : Result := .next (s.testBitReg 7 .e)

/-- `BIT 7,H` (R232). -/
def execBit7H (s : State) : Result := .next (s.testBitReg 7 .h)

/-- `BIT 7,L` (R232). -/
def execBit7L (s : State) : Result := .next (s.testBitReg 7 .l)

/-- `BIT 7,(HL)` (R233). -/
def execBit7IndHL (s : State) : Result := .next (s.testBitIndHL 7)

/-- `BIT 7,A` (R232). -/
def execBit7A (s : State) : Result := .next (s.testBitReg 7 .a)

/-- `RES 0,B` (R234). -/
def execRes0B (s : State) : Result := .next (s.clearBitReg 0 .b)

/-- `RES 0,C` (R234). -/
def execRes0C (s : State) : Result := .next (s.clearBitReg 0 .c)

/-- `RES 0,D` (R234). -/
def execRes0D (s : State) : Result := .next (s.clearBitReg 0 .d)

/-- `RES 0,E` (R234). -/
def execRes0E (s : State) : Result := .next (s.clearBitReg 0 .e)

/-- `RES 0,H` (R234). -/
def execRes0H (s : State) : Result := .next (s.clearBitReg 0 .h)

/-- `RES 0,L` (R234). -/
def execRes0L (s : State) : Result := .next (s.clearBitReg 0 .l)

/-- `RES 0,(HL)` (R235). -/
def execRes0IndHL (s : State) : Result := .next (s.clearBitIndHL 0)

/-- `RES 0,A` (R234). -/
def execRes0A (s : State) : Result := .next (s.clearBitReg 0 .a)

/-- `RES 1,B` (R234). -/
def execRes1B (s : State) : Result := .next (s.clearBitReg 1 .b)

/-- `RES 1,C` (R234). -/
def execRes1C (s : State) : Result := .next (s.clearBitReg 1 .c)

/-- `RES 1,D` (R234). -/
def execRes1D (s : State) : Result := .next (s.clearBitReg 1 .d)

/-- `RES 1,E` (R234). -/
def execRes1E (s : State) : Result := .next (s.clearBitReg 1 .e)

/-- `RES 1,H` (R234). -/
def execRes1H (s : State) : Result := .next (s.clearBitReg 1 .h)

/-- `RES 1,L` (R234). -/
def execRes1L (s : State) : Result := .next (s.clearBitReg 1 .l)

/-- `RES 1,(HL)` (R235). -/
def execRes1IndHL (s : State) : Result := .next (s.clearBitIndHL 1)

/-- `RES 1,A` (R234). -/
def execRes1A (s : State) : Result := .next (s.clearBitReg 1 .a)

/-- `RES 2,B` (R234). -/
def execRes2B (s : State) : Result := .next (s.clearBitReg 2 .b)

/-- `RES 2,C` (R234). -/
def execRes2C (s : State) : Result := .next (s.clearBitReg 2 .c)

/-- `RES 2,D` (R234). -/
def execRes2D (s : State) : Result := .next (s.clearBitReg 2 .d)

/-- `RES 2,E` (R234). -/
def execRes2E (s : State) : Result := .next (s.clearBitReg 2 .e)

/-- `RES 2,H` (R234). -/
def execRes2H (s : State) : Result := .next (s.clearBitReg 2 .h)

/-- `RES 2,L` (R234). -/
def execRes2L (s : State) : Result := .next (s.clearBitReg 2 .l)

/-- `RES 2,(HL)` (R235). -/
def execRes2IndHL (s : State) : Result := .next (s.clearBitIndHL 2)

/-- `RES 2,A` (R234). -/
def execRes2A (s : State) : Result := .next (s.clearBitReg 2 .a)

/-- `RES 3,B` (R234). -/
def execRes3B (s : State) : Result := .next (s.clearBitReg 3 .b)

/-- `RES 3,C` (R234). -/
def execRes3C (s : State) : Result := .next (s.clearBitReg 3 .c)

/-- `RES 3,D` (R234). -/
def execRes3D (s : State) : Result := .next (s.clearBitReg 3 .d)

/-- `RES 3,E` (R234). -/
def execRes3E (s : State) : Result := .next (s.clearBitReg 3 .e)

/-- `RES 3,H` (R234). -/
def execRes3H (s : State) : Result := .next (s.clearBitReg 3 .h)

/-- `RES 3,L` (R234). -/
def execRes3L (s : State) : Result := .next (s.clearBitReg 3 .l)

/-- `RES 3,(HL)` (R235). -/
def execRes3IndHL (s : State) : Result := .next (s.clearBitIndHL 3)

/-- `RES 3,A` (R234). -/
def execRes3A (s : State) : Result := .next (s.clearBitReg 3 .a)

/-- `RES 4,B` (R234). -/
def execRes4B (s : State) : Result := .next (s.clearBitReg 4 .b)

/-- `RES 4,C` (R234). -/
def execRes4C (s : State) : Result := .next (s.clearBitReg 4 .c)

/-- `RES 4,D` (R234). -/
def execRes4D (s : State) : Result := .next (s.clearBitReg 4 .d)

/-- `RES 4,E` (R234). -/
def execRes4E (s : State) : Result := .next (s.clearBitReg 4 .e)

/-- `RES 4,H` (R234). -/
def execRes4H (s : State) : Result := .next (s.clearBitReg 4 .h)

/-- `RES 4,L` (R234). -/
def execRes4L (s : State) : Result := .next (s.clearBitReg 4 .l)

/-- `RES 4,(HL)` (R235). -/
def execRes4IndHL (s : State) : Result := .next (s.clearBitIndHL 4)

/-- `RES 4,A` (R234). -/
def execRes4A (s : State) : Result := .next (s.clearBitReg 4 .a)

/-- `RES 5,B` (R234). -/
def execRes5B (s : State) : Result := .next (s.clearBitReg 5 .b)

/-- `RES 5,C` (R234). -/
def execRes5C (s : State) : Result := .next (s.clearBitReg 5 .c)

/-- `RES 5,D` (R234). -/
def execRes5D (s : State) : Result := .next (s.clearBitReg 5 .d)

/-- `RES 5,E` (R234). -/
def execRes5E (s : State) : Result := .next (s.clearBitReg 5 .e)

/-- `RES 5,H` (R234). -/
def execRes5H (s : State) : Result := .next (s.clearBitReg 5 .h)

/-- `RES 5,L` (R234). -/
def execRes5L (s : State) : Result := .next (s.clearBitReg 5 .l)

/-- `RES 5,(HL)` (R235). -/
def execRes5IndHL (s : State) : Result := .next (s.clearBitIndHL 5)

/-- `RES 5,A` (R234). -/
def execRes5A (s : State) : Result := .next (s.clearBitReg 5 .a)

/-- `RES 6,B` (R234). -/
def execRes6B (s : State) : Result := .next (s.clearBitReg 6 .b)

/-- `RES 6,C` (R234). -/
def execRes6C (s : State) : Result := .next (s.clearBitReg 6 .c)

/-- `RES 6,D` (R234). -/
def execRes6D (s : State) : Result := .next (s.clearBitReg 6 .d)

/-- `RES 6,E` (R234). -/
def execRes6E (s : State) : Result := .next (s.clearBitReg 6 .e)

/-- `RES 6,H` (R234). -/
def execRes6H (s : State) : Result := .next (s.clearBitReg 6 .h)

/-- `RES 6,L` (R234). -/
def execRes6L (s : State) : Result := .next (s.clearBitReg 6 .l)

/-- `RES 6,(HL)` (R235). -/
def execRes6IndHL (s : State) : Result := .next (s.clearBitIndHL 6)

/-- `RES 6,A` (R234). -/
def execRes6A (s : State) : Result := .next (s.clearBitReg 6 .a)

/-- `RES 7,B` (R234). -/
def execRes7B (s : State) : Result := .next (s.clearBitReg 7 .b)

/-- `RES 7,C` (R234). -/
def execRes7C (s : State) : Result := .next (s.clearBitReg 7 .c)

/-- `RES 7,D` (R234). -/
def execRes7D (s : State) : Result := .next (s.clearBitReg 7 .d)

/-- `RES 7,E` (R234). -/
def execRes7E (s : State) : Result := .next (s.clearBitReg 7 .e)

/-- `RES 7,H` (R234). -/
def execRes7H (s : State) : Result := .next (s.clearBitReg 7 .h)

/-- `RES 7,L` (R234). -/
def execRes7L (s : State) : Result := .next (s.clearBitReg 7 .l)

/-- `RES 7,(HL)` (R235). -/
def execRes7IndHL (s : State) : Result := .next (s.clearBitIndHL 7)

/-- `RES 7,A` (R234). -/
def execRes7A (s : State) : Result := .next (s.clearBitReg 7 .a)

/-- `SET 0,B` (R236). -/
def execSet0B (s : State) : Result := .next (s.setBitReg 0 .b)

/-- `SET 0,C` (R236). -/
def execSet0C (s : State) : Result := .next (s.setBitReg 0 .c)

/-- `SET 0,D` (R236). -/
def execSet0D (s : State) : Result := .next (s.setBitReg 0 .d)

/-- `SET 0,E` (R236). -/
def execSet0E (s : State) : Result := .next (s.setBitReg 0 .e)

/-- `SET 0,H` (R236). -/
def execSet0H (s : State) : Result := .next (s.setBitReg 0 .h)

/-- `SET 0,L` (R236). -/
def execSet0L (s : State) : Result := .next (s.setBitReg 0 .l)

/-- `SET 0,(HL)` (R237). -/
def execSet0IndHL (s : State) : Result := .next (s.setBitIndHL 0)

/-- `SET 0,A` (R236). -/
def execSet0A (s : State) : Result := .next (s.setBitReg 0 .a)

/-- `SET 1,B` (R236). -/
def execSet1B (s : State) : Result := .next (s.setBitReg 1 .b)

/-- `SET 1,C` (R236). -/
def execSet1C (s : State) : Result := .next (s.setBitReg 1 .c)

/-- `SET 1,D` (R236). -/
def execSet1D (s : State) : Result := .next (s.setBitReg 1 .d)

/-- `SET 1,E` (R236). -/
def execSet1E (s : State) : Result := .next (s.setBitReg 1 .e)

/-- `SET 1,H` (R236). -/
def execSet1H (s : State) : Result := .next (s.setBitReg 1 .h)

/-- `SET 1,L` (R236). -/
def execSet1L (s : State) : Result := .next (s.setBitReg 1 .l)

/-- `SET 1,(HL)` (R237). -/
def execSet1IndHL (s : State) : Result := .next (s.setBitIndHL 1)

/-- `SET 1,A` (R236). -/
def execSet1A (s : State) : Result := .next (s.setBitReg 1 .a)

/-- `SET 2,B` (R236). -/
def execSet2B (s : State) : Result := .next (s.setBitReg 2 .b)

/-- `SET 2,C` (R236). -/
def execSet2C (s : State) : Result := .next (s.setBitReg 2 .c)

/-- `SET 2,D` (R236). -/
def execSet2D (s : State) : Result := .next (s.setBitReg 2 .d)

/-- `SET 2,E` (R236). -/
def execSet2E (s : State) : Result := .next (s.setBitReg 2 .e)

/-- `SET 2,H` (R236). -/
def execSet2H (s : State) : Result := .next (s.setBitReg 2 .h)

/-- `SET 2,L` (R236). -/
def execSet2L (s : State) : Result := .next (s.setBitReg 2 .l)

/-- `SET 2,(HL)` (R237). -/
def execSet2IndHL (s : State) : Result := .next (s.setBitIndHL 2)

/-- `SET 2,A` (R236). -/
def execSet2A (s : State) : Result := .next (s.setBitReg 2 .a)

/-- `SET 3,B` (R236). -/
def execSet3B (s : State) : Result := .next (s.setBitReg 3 .b)

/-- `SET 3,C` (R236). -/
def execSet3C (s : State) : Result := .next (s.setBitReg 3 .c)

/-- `SET 3,D` (R236). -/
def execSet3D (s : State) : Result := .next (s.setBitReg 3 .d)

/-- `SET 3,E` (R236). -/
def execSet3E (s : State) : Result := .next (s.setBitReg 3 .e)

/-- `SET 3,H` (R236). -/
def execSet3H (s : State) : Result := .next (s.setBitReg 3 .h)

/-- `SET 3,L` (R236). -/
def execSet3L (s : State) : Result := .next (s.setBitReg 3 .l)

/-- `SET 3,(HL)` (R237). -/
def execSet3IndHL (s : State) : Result := .next (s.setBitIndHL 3)

/-- `SET 3,A` (R236). -/
def execSet3A (s : State) : Result := .next (s.setBitReg 3 .a)

/-- `SET 4,B` (R236). -/
def execSet4B (s : State) : Result := .next (s.setBitReg 4 .b)

/-- `SET 4,C` (R236). -/
def execSet4C (s : State) : Result := .next (s.setBitReg 4 .c)

/-- `SET 4,D` (R236). -/
def execSet4D (s : State) : Result := .next (s.setBitReg 4 .d)

/-- `SET 4,E` (R236). -/
def execSet4E (s : State) : Result := .next (s.setBitReg 4 .e)

/-- `SET 4,H` (R236). -/
def execSet4H (s : State) : Result := .next (s.setBitReg 4 .h)

/-- `SET 4,L` (R236). -/
def execSet4L (s : State) : Result := .next (s.setBitReg 4 .l)

/-- `SET 4,(HL)` (R237). -/
def execSet4IndHL (s : State) : Result := .next (s.setBitIndHL 4)

/-- `SET 4,A` (R236). -/
def execSet4A (s : State) : Result := .next (s.setBitReg 4 .a)

/-- `SET 5,B` (R236). -/
def execSet5B (s : State) : Result := .next (s.setBitReg 5 .b)

/-- `SET 5,C` (R236). -/
def execSet5C (s : State) : Result := .next (s.setBitReg 5 .c)

/-- `SET 5,D` (R236). -/
def execSet5D (s : State) : Result := .next (s.setBitReg 5 .d)

/-- `SET 5,E` (R236). -/
def execSet5E (s : State) : Result := .next (s.setBitReg 5 .e)

/-- `SET 5,H` (R236). -/
def execSet5H (s : State) : Result := .next (s.setBitReg 5 .h)

/-- `SET 5,L` (R236). -/
def execSet5L (s : State) : Result := .next (s.setBitReg 5 .l)

/-- `SET 5,(HL)` (R237). -/
def execSet5IndHL (s : State) : Result := .next (s.setBitIndHL 5)

/-- `SET 5,A` (R236). -/
def execSet5A (s : State) : Result := .next (s.setBitReg 5 .a)

/-- `SET 6,B` (R236). -/
def execSet6B (s : State) : Result := .next (s.setBitReg 6 .b)

/-- `SET 6,C` (R236). -/
def execSet6C (s : State) : Result := .next (s.setBitReg 6 .c)

/-- `SET 6,D` (R236). -/
def execSet6D (s : State) : Result := .next (s.setBitReg 6 .d)

/-- `SET 6,E` (R236). -/
def execSet6E (s : State) : Result := .next (s.setBitReg 6 .e)

/-- `SET 6,H` (R236). -/
def execSet6H (s : State) : Result := .next (s.setBitReg 6 .h)

/-- `SET 6,L` (R236). -/
def execSet6L (s : State) : Result := .next (s.setBitReg 6 .l)

/-- `SET 6,(HL)` (R237). -/
def execSet6IndHL (s : State) : Result := .next (s.setBitIndHL 6)

/-- `SET 6,A` (R236). -/
def execSet6A (s : State) : Result := .next (s.setBitReg 6 .a)

/-- `SET 7,B` (R236). -/
def execSet7B (s : State) : Result := .next (s.setBitReg 7 .b)

/-- `SET 7,C` (R236). -/
def execSet7C (s : State) : Result := .next (s.setBitReg 7 .c)

/-- `SET 7,D` (R236). -/
def execSet7D (s : State) : Result := .next (s.setBitReg 7 .d)

/-- `SET 7,E` (R236). -/
def execSet7E (s : State) : Result := .next (s.setBitReg 7 .e)

/-- `SET 7,H` (R236). -/
def execSet7H (s : State) : Result := .next (s.setBitReg 7 .h)

/-- `SET 7,L` (R236). -/
def execSet7L (s : State) : Result := .next (s.setBitReg 7 .l)

/-- `SET 7,(HL)` (R237). -/
def execSet7IndHL (s : State) : Result := .next (s.setBitIndHL 7)

/-- `SET 7,A` (R236). -/
def execSet7A (s : State) : Result := .next (s.setBitReg 7 .a)

end Sys2Proof.Machine
end

