-- ==== Sys2Proof/Machine/Misc.lean ====
section
/-! DEFINITION. NOP, HALT, STOP, DI, EI, the prefix and the unimplemented opcodes (spec/46_misc.md). -/

namespace Sys2Proof.Machine

/-- `HALT`: with IME set the CPU halts, else the next opcode fetch does not advance PC; IME is the bit in effect (R271). -/
def State.haltCpu (s : State) : State :=
  State.setCost
    (if s.irq.ime then { s with ctl := { s.ctl with halted := true } } else { s with ctl := { s.ctl with haltBug := true } }) 4

/-- The register a 3-bit field names; none for 6, the byte at HL (R10). -/
def regOfIndex (z : Nat) : Option Reg8 :=
  match z with
  | 0 => some .b
  | 1 => some .c
  | 2 => some .d
  | 3 => some .e
  | 4 => some .h
  | 5 => some .l
  | 6 => none
  | _ => some .a

/-- The rotate or shift a field `y` selects (R214). -/
def rotOfIndex (y : Nat) : RotOp :=
  match y with
  | 0 => .rlc
  | 1 => .rrc
  | 2 => .rl
  | 3 => .rr
  | 4 => .sla
  | 5 => .sra
  | 6 => .swap
  | _ => .srl

/-- The prefixed instruction a second byte selects, by its fields `x`, `y`, `z` (R214). -/
def State.prefixed (s : State) (op2 : Byte) : State :=
  let n := op2.toNat
  let y := n / 8 % 8
  let b : Fin 8 := Fin.ofNat 8 y
  match n / 64, regOfIndex (n % 8) with
  | 0, some r => s.rotReg (rotOfIndex y) r
  | 0, none => s.rotIndHL (rotOfIndex y)
  | 1, some r => s.testBitReg b r
  | 1, none => s.testBitIndHL b
  | 2, some r => s.clearBitReg b r
  | 2, none => s.clearBitIndHL b
  | _, some r => s.setBitReg b r
  | _, none => s.setBitIndHL b

/-- The prefix: `op2 <- Fetch8()`, then the rule `op2` selects (R275). A step never stops here: with its second byte at hand the
decoder reads the prefixed instruction itself. -/
def State.prefixCB (s : State) : State := s.fetch8.2.prefixed s.fetch8.1

/-- `NOP` (R270). -/
def execNop (s : State) : Result := .next (s.setCost 4)

/-- `STOP`: raises `UnimplementedOpcode(0x10, addr)`; its second byte `n` has no effect (R272). -/
def execStop (_n : Byte) (s : State) : Result := .next (s.raiseUnimplemented 0x10)

/-- `HALT` (R271). -/
def execHalt (s : State) : Result := .next (s.haltCpu)

/-- `PREFIX CB` (R275). -/
def execPrefixCB (s : State) : Result := .next (s.prefixCB)

/-- `0xD3, no instruction` (R276). -/
def execUnimplD3 (s : State) : Result := .next (s.raiseUnimplemented 0xD3)

/-- `0xDB, no instruction` (R276). -/
def execUnimplDB (s : State) : Result := .next (s.raiseUnimplemented 0xDB)

/-- `0xDD, no instruction` (R276). -/
def execUnimplDD (s : State) : Result := .next (s.raiseUnimplemented 0xDD)

/-- `0xE3, no instruction` (R276). -/
def execUnimplE3 (s : State) : Result := .next (s.raiseUnimplemented 0xE3)

/-- `0xE4, no instruction` (R276). -/
def execUnimplE4 (s : State) : Result := .next (s.raiseUnimplemented 0xE4)

/-- `0xEB, no instruction` (R276). -/
def execUnimplEB (s : State) : Result := .next (s.raiseUnimplemented 0xEB)

/-- `0xEC, no instruction` (R276). -/
def execUnimplEC (s : State) : Result := .next (s.raiseUnimplemented 0xEC)

/-- `0xED, no instruction` (R276). -/
def execUnimplED (s : State) : Result := .next (s.raiseUnimplemented 0xED)

/-- `DI` (R273). -/
def execDi (s : State) : Result := .next ((s.requestIme false).setCost 4)

/-- `0xF4, no instruction` (R276). -/
def execUnimplF4 (s : State) : Result := .next (s.raiseUnimplemented 0xF4)

/-- `EI` (R274). -/
def execEi (s : State) : Result := .next ((s.requestIme true).setCost 4)

/-- `0xFC, no instruction` (R276). -/
def execUnimplFC (s : State) : Result := .next (s.raiseUnimplemented 0xFC)

/-- `0xFD, no instruction` (R276). -/
def execUnimplFD (s : State) : Result := .next (s.raiseUnimplemented 0xFD)

end Sys2Proof.Machine
end

