-- ==== Sys2Proof/WellFormed.lean ====
section
/-! DEFINITION. Well-formed instructions. Operand widths are carried by the types of `Instr`, so one check is left: PREFIX_CB
"is not an instruction of its own" (R275); it is well formed only together with its second byte, as one of the 256 prefixed
instructions. -/

namespace Sys2Proof

/-- An instruction a step can run as a whole (R275: the prefix without its second byte is not one). -/
def WellFormed : Instr → Bool
  | .prefixCB => false
  | _ => true

end Sys2Proof
end

