-- ==== Sys2Proof/Decode.lean ====
section
/-! DEFINITION. Decoding and encoding. The decoder looks bytes up in the two tables of spec/30_encoding.md (R96, R97), row by row
as the spec prints them; it is total on lists of bytes and says by name what it cannot read. The encoder after it is written per
constructor from the opcode bytes of spec/opcode_table.json. The selectors at the end name an instruction by its operands, as the
bit patterns of R96 and R97 do. -/

namespace Sys2Proof

open Sys2Proof.Machine

/-- Why a list of bytes is no instruction. -/
inductive DecodeError where
  /-- There is no opcode byte. -/
  | noOpcode
  /-- The operand bytes that the opcode's format asks for are missing (R90). -/
  | missingOperand (op : Byte)
deriving DecidableEq, Repr

/-- One cell of the primary table: an instruction waiting for the operand its format fetches (R90, R96). -/
inductive Cell where
  /-- Format OP: no operand. -/
  | op (i : Instr)
  /-- Formats OP_N and OP_E: one operand byte. -/
  | opN (f : Byte → Instr)
  /-- Format OP_NN: two operand bytes, low byte first (R93). -/
  | opNN (f : Word → Instr)
  /-- Format CB_OP: the next byte is an opcode of the prefixed table (R97, R275). -/
  | secondTable

/-- Row 0x0x of the primary table (R96). -/
def primaryRow0 : List Cell :=
  [.op .nop, .opNN .ldBCNn, .op .ldIndBCA, .op .incBC, .op .incB, .op .decB, .opN .ldBN, .op .rlca,
   .opNN .ldIndNnSP, .op .addHLBC, .op .ldAIndBC, .op .decBC, .op .incC, .op .decC, .opN .ldCN, .op .rrca]

/-- Row 0x1x of the primary table (R96). -/
def primaryRow1 : List Cell :=
  [.opN .stop, .opNN .ldDENn, .op .ldIndDEA, .op .incDE, .op .incD, .op .decD, .opN .ldDN, .op .rla,
   .opN .jrE, .op .addHLDE, .op .ldAIndDE, .op .decDE, .op .incE, .op .decE, .opN .ldEN, .op .rra]

/-- Row 0x2x of the primary table (R96). -/
def primaryRow2 : List Cell :=
  [.opN .jrNZE, .opNN .ldHLNn, .op .ldIndHLIncA, .op .incHL, .op .incH, .op .decH, .opN .ldHN, .op .daa,
   .opN .jrZE, .op .addHLHL, .op .ldAIndHLInc, .op .decHL, .op .incL, .op .decL, .opN .ldLN, .op .cpl]

/-- Row 0x3x of the primary table (R96). -/
def primaryRow3 : List Cell :=
  [.opN .jrNCE, .opNN .ldSPNn, .op .ldIndHLDecA, .op .incSP, .op .incIndHL, .op .decIndHL, .opN .ldIndHLN, .op .scf,
   .opN .jrCE, .op .addHLSP, .op .ldAIndHLDec, .op .decSP, .op .incA, .op .decA, .opN .ldAN, .op .ccf]

/-- Row 0x4x of the primary table (R96). -/
def primaryRow4 : List Cell :=
  [.op .ldBB, .op .ldBC, .op .ldBD, .op .ldBE, .op .ldBH, .op .ldBL, .op .ldBIndHL, .op .ldBA,
   .op .ldCB, .op .ldCC, .op .ldCD, .op .ldCE, .op .ldCH, .op .ldCL, .op .ldCIndHL, .op .ldCA]

/-- Row 0x5x of the primary table (R96). -/
def primaryRow5 : List Cell :=
  [.op .ldDB, .op .ldDC, .op .ldDD, .op .ldDE, .op .ldDH, .op .ldDL, .op .ldDIndHL, .op .ldDA,
   .op .ldEB, .op .ldEC, .op .ldED, .op .ldEE, .op .ldEH, .op .ldEL, .op .ldEIndHL, .op .ldEA]

/-- Row 0x6x of the primary table (R96). -/
def primaryRow6 : List Cell :=
  [.op .ldHB, .op .ldHC, .op .ldHD, .op .ldHE, .op .ldHH, .op .ldHL, .op .ldHIndHL, .op .ldHA,
   .op .ldLB, .op .ldLC, .op .ldLD, .op .ldLE, .op .ldLH, .op .ldLL, .op .ldLIndHL, .op .ldLA]

/-- Row 0x7x of the primary table (R96). -/
def primaryRow7 : List Cell :=
  [.op .ldIndHLB, .op .ldIndHLC, .op .ldIndHLD, .op .ldIndHLE, .op .ldIndHLH, .op .ldIndHLL, .op .halt, .op .ldIndHLA,
   .op .ldAB, .op .ldAC, .op .ldAD, .op .ldAE, .op .ldAH, .op .ldAL, .op .ldAIndHL, .op .ldAA]

/-- Row 0x8x of the primary table (R96). -/
def primaryRow8 : List Cell :=
  [.op .addAB, .op .addAC, .op .addAD, .op .addAE, .op .addAH, .op .addAL, .op .addAIndHL, .op .addAA,
   .op .adcAB, .op .adcAC, .op .adcAD, .op .adcAE, .op .adcAH, .op .adcAL, .op .adcAIndHL, .op .adcAA]

/-- Row 0x9x of the primary table (R96). -/
def primaryRow9 : List Cell :=
  [.op .subB, .op .subC, .op .subD, .op .subE, .op .subH, .op .subL, .op .subIndHL, .op .subA,
   .op .sbcAB, .op .sbcAC, .op .sbcAD, .op .sbcAE, .op .sbcAH, .op .sbcAL, .op .sbcAIndHL, .op .sbcAA]

/-- Row 0xAx of the primary table (R96). -/
def primaryRowA : List Cell :=
  [.op .andB, .op .andC, .op .andD, .op .andE, .op .andH, .op .andL, .op .andIndHL, .op .andA,
   .op .xorB, .op .xorC, .op .xorD, .op .xorE, .op .xorH, .op .xorL, .op .xorIndHL, .op .xorA]

/-- Row 0xBx of the primary table (R96). -/
def primaryRowB : List Cell :=
  [.op .orB, .op .orC, .op .orD, .op .orE, .op .orH, .op .orL, .op .orIndHL, .op .orA,
   .op .cpB, .op .cpC, .op .cpD, .op .cpE, .op .cpH, .op .cpL, .op .cpIndHL, .op .cpA]

/-- Row 0xCx of the primary table (R96). -/
def primaryRowC : List Cell :=
  [.op .retNZ, .op .popBC, .opNN .jpNZNn, .opNN .jpNn, .opNN .callNZNn, .op .pushBC, .opN .addAN, .op .rst00,
   .op .retZ, .op .ret, .opNN .jpZNn, .secondTable, .opNN .callZNn, .opNN .callNn, .opN .adcAN, .op .rst08]

/-- Row 0xDx of the primary table (R96). -/
def primaryRowD : List Cell :=
  [.op .retNC, .op .popDE, .opNN .jpNCNn, .op .unimplD3, .opNN .callNCNn, .op .pushDE, .opN .subN, .op .rst10,
   .op .retC, .op .reti, .opNN .jpCNn, .op .unimplDB, .opNN .callCNn, .op .unimplDD, .opN .sbcAN, .op .rst18]

/-- Row 0xEx of the primary table (R96). -/
def primaryRowE : List Cell :=
  [.opN .ldhNA, .op .popHL, .op .ldhCA, .op .unimplE3, .op .unimplE4, .op .pushHL, .opN .andN, .op .rst20,
   .opN .addSPE, .op .jpHL, .opNN .ldIndNnA, .op .unimplEB, .op .unimplEC, .op .unimplED, .opN .xorN, .op .rst28]

/-- Row 0xFx of the primary table (R96). -/
def primaryRowF : List Cell :=
  [.opN .ldhAN, .op .popAF, .op .ldhAC, .op .di, .op .unimplF4, .op .pushAF, .opN .orN, .op .rst30,
   .opN .ldHLSPE, .op .ldSPHL, .opNN .ldAIndNn, .op .ei, .op .unimplFC, .op .unimplFD, .opN .cpN, .op .rst38]

/-- The primary table, by high nibble (R96). -/
def primaryTable : List (List Cell) :=
  [primaryRow0, primaryRow1, primaryRow2, primaryRow3, primaryRow4, primaryRow5, primaryRow6, primaryRow7, primaryRow8, primaryRow9, primaryRowA, primaryRowB, primaryRowC, primaryRowD, primaryRowE, primaryRowF]

/-- The eight operands of RLC in the prefixed table, second bytes 0x00-0x07 (R97). -/
def prefixedRow00 : List Instr :=
  [.rlcB, .rlcC, .rlcD, .rlcE, .rlcH, .rlcL, .rlcIndHL, .rlcA]

/-- The eight operands of RRC in the prefixed table, second bytes 0x08-0x0F (R97). -/
def prefixedRow08 : List Instr :=
  [.rrcB, .rrcC, .rrcD, .rrcE, .rrcH, .rrcL, .rrcIndHL, .rrcA]

/-- The eight operands of RL in the prefixed table, second bytes 0x10-0x17 (R97). -/
def prefixedRow10 : List Instr :=
  [.rlB, .rlC, .rlD, .rlE, .rlH, .rlL, .rlIndHL, .rlA]

/-- The eight operands of RR in the prefixed table, second bytes 0x18-0x1F (R97). -/
def prefixedRow18 : List Instr :=
  [.rrB, .rrC, .rrD, .rrE, .rrH, .rrL, .rrIndHL, .rrA]

/-- The eight operands of SLA in the prefixed table, second bytes 0x20-0x27 (R97). -/
def prefixedRow20 : List Instr :=
  [.slaB, .slaC, .slaD, .slaE, .slaH, .slaL, .slaIndHL, .slaA]

/-- The eight operands of SRA in the prefixed table, second bytes 0x28-0x2F (R97). -/
def prefixedRow28 : List Instr :=
  [.sraB, .sraC, .sraD, .sraE, .sraH, .sraL, .sraIndHL, .sraA]

/-- The eight operands of SWAP in the prefixed table, second bytes 0x30-0x37 (R97). -/
def prefixedRow30 : List Instr :=
  [.swapB, .swapC, .swapD, .swapE, .swapH, .swapL, .swapIndHL, .swapA]

/-- The eight operands of SRL in the prefixed table, second bytes 0x38-0x3F (R97). -/
def prefixedRow38 : List Instr :=
  [.srlB, .srlC, .srlD, .srlE, .srlH, .srlL, .srlIndHL, .srlA]

/-- The eight operands of BIT 0 in the prefixed table, second bytes 0x40-0x47 (R97). -/
def prefixedRow40 : List Instr :=
  [.bit0B, .bit0C, .bit0D, .bit0E, .bit0H, .bit0L, .bit0IndHL, .bit0A]

/-- The eight operands of BIT 1 in the prefixed table, second bytes 0x48-0x4F (R97). -/
def prefixedRow48 : List Instr :=
  [.bit1B, .bit1C, .bit1D, .bit1E, .bit1H, .bit1L, .bit1IndHL, .bit1A]

/-- The eight operands of BIT 2 in the prefixed table, second bytes 0x50-0x57 (R97). -/
def prefixedRow50 : List Instr :=
  [.bit2B, .bit2C, .bit2D, .bit2E, .bit2H, .bit2L, .bit2IndHL, .bit2A]

/-- The eight operands of BIT 3 in the prefixed table, second bytes 0x58-0x5F (R97). -/
def prefixedRow58 : List Instr :=
  [.bit3B, .bit3C, .bit3D, .bit3E, .bit3H, .bit3L, .bit3IndHL, .bit3A]

/-- The eight operands of BIT 4 in the prefixed table, second bytes 0x60-0x67 (R97). -/
def prefixedRow60 : List Instr :=
  [.bit4B, .bit4C, .bit4D, .bit4E, .bit4H, .bit4L, .bit4IndHL, .bit4A]

/-- The eight operands of BIT 5 in the prefixed table, second bytes 0x68-0x6F (R97). -/
def prefixedRow68 : List Instr :=
  [.bit5B, .bit5C, .bit5D, .bit5E, .bit5H, .bit5L, .bit5IndHL, .bit5A]

/-- The eight operands of BIT 6 in the prefixed table, second bytes 0x70-0x77 (R97). -/
def prefixedRow70 : List Instr :=
  [.bit6B, .bit6C, .bit6D, .bit6E, .bit6H, .bit6L, .bit6IndHL, .bit6A]

/-- The eight operands of BIT 7 in the prefixed table, second bytes 0x78-0x7F (R97). -/
def prefixedRow78 : List Instr :=
  [.bit7B, .bit7C, .bit7D, .bit7E, .bit7H, .bit7L, .bit7IndHL, .bit7A]

/-- The eight operands of RES 0 in the prefixed table, second bytes 0x80-0x87 (R97). -/
def prefixedRow80 : List Instr :=
  [.res0B, .res0C, .res0D, .res0E, .res0H, .res0L, .res0IndHL, .res0A]

/-- The eight operands of RES 1 in the prefixed table, second bytes 0x88-0x8F (R97). -/
def prefixedRow88 : List Instr :=
  [.res1B, .res1C, .res1D, .res1E, .res1H, .res1L, .res1IndHL, .res1A]

/-- The eight operands of RES 2 in the prefixed table, second bytes 0x90-0x97 (R97). -/
def prefixedRow90 : List Instr :=
  [.res2B, .res2C, .res2D, .res2E, .res2H, .res2L, .res2IndHL, .res2A]

/-- The eight operands of RES 3 in the prefixed table, second bytes 0x98-0x9F (R97). -/
def prefixedRow98 : List Instr :=
  [.res3B, .res3C, .res3D, .res3E, .res3H, .res3L, .res3IndHL, .res3A]

/-- The eight operands of RES 4 in the prefixed table, second bytes 0xA0-0xA7 (R97). -/
def prefixedRowA0 : List Instr :=
  [.res4B, .res4C, .res4D, .res4E, .res4H, .res4L, .res4IndHL, .res4A]

/-- The eight operands of RES 5 in the prefixed table, second bytes 0xA8-0xAF (R97). -/
def prefixedRowA8 : List Instr :=
  [.res5B, .res5C, .res5D, .res5E, .res5H, .res5L, .res5IndHL, .res5A]

/-- The eight operands of RES 6 in the prefixed table, second bytes 0xB0-0xB7 (R97). -/
def prefixedRowB0 : List Instr :=
  [.res6B, .res6C, .res6D, .res6E, .res6H, .res6L, .res6IndHL, .res6A]

/-- The eight operands of RES 7 in the prefixed table, second bytes 0xB8-0xBF (R97). -/
def prefixedRowB8 : List Instr :=
  [.res7B, .res7C, .res7D, .res7E, .res7H, .res7L, .res7IndHL, .res7A]

/-- The eight operands of SET 0 in the prefixed table, second bytes 0xC0-0xC7 (R97). -/
def prefixedRowC0 : List Instr :=
  [.set0B, .set0C, .set0D, .set0E, .set0H, .set0L, .set0IndHL, .set0A]

/-- The eight operands of SET 1 in the prefixed table, second bytes 0xC8-0xCF (R97). -/
def prefixedRowC8 : List Instr :=
  [.set1B, .set1C, .set1D, .set1E, .set1H, .set1L, .set1IndHL, .set1A]

/-- The eight operands of SET 2 in the prefixed table, second bytes 0xD0-0xD7 (R97). -/
def prefixedRowD0 : List Instr :=
  [.set2B, .set2C, .set2D, .set2E, .set2H, .set2L, .set2IndHL, .set2A]

/-- The eight operands of SET 3 in the prefixed table, second bytes 0xD8-0xDF (R97). -/
def prefixedRowD8 : List Instr :=
  [.set3B, .set3C, .set3D, .set3E, .set3H, .set3L, .set3IndHL, .set3A]

/-- The eight operands of SET 4 in the prefixed table, second bytes 0xE0-0xE7 (R97). -/
def prefixedRowE0 : List Instr :=
  [.set4B, .set4C, .set4D, .set4E, .set4H, .set4L, .set4IndHL, .set4A]

/-- The eight operands of SET 5 in the prefixed table, second bytes 0xE8-0xEF (R97). -/
def prefixedRowE8 : List Instr :=
  [.set5B, .set5C, .set5D, .set5E, .set5H, .set5L, .set5IndHL, .set5A]

/-- The eight operands of SET 6 in the prefixed table, second bytes 0xF0-0xF7 (R97). -/
def prefixedRowF0 : List Instr :=
  [.set6B, .set6C, .set6D, .set6E, .set6H, .set6L, .set6IndHL, .set6A]

/-- The eight operands of SET 7 in the prefixed table, second bytes 0xF8-0xFF (R97). -/
def prefixedRowF8 : List Instr :=
  [.set7B, .set7C, .set7D, .set7E, .set7H, .set7L, .set7IndHL, .set7A]

/-- The prefixed table, by the bits `x:y` of the second byte (R97, R214). -/
def prefixedTable : List (List Instr) :=
  [prefixedRow00, prefixedRow08, prefixedRow10, prefixedRow18, prefixedRow20, prefixedRow28, prefixedRow30, prefixedRow38] ++
  [prefixedRow40, prefixedRow48, prefixedRow50, prefixedRow58, prefixedRow60, prefixedRow68, prefixedRow70, prefixedRow78] ++
  [prefixedRow80, prefixedRow88, prefixedRow90, prefixedRow98, prefixedRowA0, prefixedRowA8, prefixedRowB0, prefixedRowB8] ++
  [prefixedRowC0, prefixedRowC8, prefixedRowD0, prefixedRowD8, prefixedRowE0, prefixedRowE8, prefixedRowF0, prefixedRowF8]

/-- The cell of the primary table an opcode byte selects. -/
def primaryCell (op : Byte) : Option Cell :=
  (primaryTable[op.toNat / 16]?).bind (fun row => row[op.toNat % 16]?)

/-- The prefixed instruction a second byte selects. -/
def prefixedInstr (op2 : Byte) : Option Instr :=
  (prefixedTable[op2.toNat / 8]?).bind (fun row => row[op2.toNat % 8]?)

/-- The instruction at the head of a list of bytes, and the bytes after it. The operand bytes are taken in address order, low
byte first (R93, R94). The byte 0xCB with nothing after it is the table's own row PREFIX_CB; with a second byte it is the prefixed
instruction (R275). -/
def decode : List Byte → Except DecodeError (Instr × List Byte)
  | [] => .error .noOpcode
  | op :: rest =>
    match primaryCell op with
    | none => .error .noOpcode
    | some (.op i) => .ok (i, rest)
    | some (.opN f) =>
      match rest with
      | n :: rest => .ok (f n, rest)
      | [] => .error (.missingOperand op)
    | some (.opNN f) =>
      match rest with
      | lo :: hi :: rest => .ok (f (mkWord hi lo), rest)
      | _ => .error (.missingOperand op)
    | some .secondTable =>
      match rest with
      | [] => .ok (.prefixCB, [])
      | op2 :: rest =>
        match prefixedInstr op2 with
        | some i => .ok (i, rest)
        | none => .error (.missingOperand op)

/-- The length in bytes that an opcode byte alone decides (R90, R95). -/
def opcodeLength (op : Byte) : Nat :=
  if op ∈ [0x01, 0x11, 0x21, 0x31, 0x08, 0xC2, 0xC3, 0xC4, 0xCA, 0xCC, 0xCD, 0xD2, 0xD4, 0xDA, 0xDC, 0xEA, 0xFA] then 3
  else if op ∈ [0x06, 0x0E, 0x16, 0x1E, 0x26, 0x2E, 0x36, 0x3E, 0x10, 0x18, 0x20, 0x28, 0x30, 0x38, 0xC6, 0xCE, 0xD6, 0xDE,
    0xE6, 0xEE, 0xF6, 0xFE, 0xE0, 0xF0, 0xE8, 0xF8, 0xCB] then 2
  else 1

/-- The bytes of a row of spec/opcode_table.json whose bits are `w`, in address order. The table numbers a prefixed row as one
16-bit number with the prefix in the HIGH byte (spec/30_encoding.md, introduction), so those two bytes are swapped here; every
other row's first byte is its low byte. The row PREFIX_CB has eight bits and no operand byte: its second byte "is an opcode, not
an operand" (R90), so it stands alone. -/
def tableBytes (nbits w : Nat) : List Byte :=
  let byte (k : Nat) : Byte := BitVec.ofNat 8 (w / 256 ^ k)
  if nbits = 16 ∧ byte 1 = 0xCB then [0xCB, byte 0]
  else if nbits ≤ 8 then (if byte 0 = 0xCB then [0xCB] else [byte 0, 0, 0])
  else if nbits ≤ 16 then [byte 0, byte 1, 0]
  else [byte 0, byte 1, byte 2]

/-- The instruction the decoder reads from a table row's bits (fixed name of the host's). -/
def decodeTableWord (nbits w : Nat) : Option Instr :=
  match decode (tableBytes nbits w) with
  | .ok (i, _) => some i
  | .error _ => none

/-- The bytes of an instruction, in address order (R90, R96, R97). -/
def encode : Instr → List Byte
  | .nop => [0x00]
  | .ldBCNn nn => [0x01, loByte nn, hiByte nn]
  | .ldIndBCA => [0x02]
  | .incBC => [0x03]
  | .incB => [0x04]
  | .decB => [0x05]
  | .ldBN n => [0x06, n]
  | .rlca => [0x07]
  | .ldIndNnSP nn => [0x08, loByte nn, hiByte nn]
  | .addHLBC => [0x09]
  | .ldAIndBC => [0x0A]
  | .decBC => [0x0B]
  | .incC => [0x0C]
  | .decC => [0x0D]
  | .ldCN n => [0x0E, n]
  | .rrca => [0x0F]
  | .stop n => [0x10, n]
  | .ldDENn nn => [0x11, loByte nn, hiByte nn]
  | .ldIndDEA => [0x12]
  | .incDE => [0x13]
  | .incD => [0x14]
  | .decD => [0x15]
  | .ldDN n => [0x16, n]
  | .rla => [0x17]
  | .jrE e => [0x18, e]
  | .addHLDE => [0x19]
  | .ldAIndDE => [0x1A]
  | .decDE => [0x1B]
  | .incE => [0x1C]
  | .decE => [0x1D]
  | .ldEN n => [0x1E, n]
  | .rra => [0x1F]
  | .jrNZE e => [0x20, e]
  | .ldHLNn nn => [0x21, loByte nn, hiByte nn]
  | .ldIndHLIncA => [0x22]
  | .incHL => [0x23]
  | .incH => [0x24]
  | .decH => [0x25]
  | .ldHN n => [0x26, n]
  | .daa => [0x27]
  | .jrZE e => [0x28, e]
  | .addHLHL => [0x29]
  | .ldAIndHLInc => [0x2A]
  | .decHL => [0x2B]
  | .incL => [0x2C]
  | .decL => [0x2D]
  | .ldLN n => [0x2E, n]
  | .cpl => [0x2F]
  | .jrNCE e => [0x30, e]
  | .ldSPNn nn => [0x31, loByte nn, hiByte nn]
  | .ldIndHLDecA => [0x32]
  | .incSP => [0x33]
  | .incIndHL => [0x34]
  | .decIndHL => [0x35]
  | .ldIndHLN n => [0x36, n]
  | .scf => [0x37]
  | .jrCE e => [0x38, e]
  | .addHLSP => [0x39]
  | .ldAIndHLDec => [0x3A]
  | .decSP => [0x3B]
  | .incA => [0x3C]
  | .decA => [0x3D]
  | .ldAN n => [0x3E, n]
  | .ccf => [0x3F]
  | .ldBB => [0x40]
  | .ldBC => [0x41]
  | .ldBD => [0x42]
  | .ldBE => [0x43]
  | .ldBH => [0x44]
  | .ldBL => [0x45]
  | .ldBIndHL => [0x46]
  | .ldBA => [0x47]
  | .ldCB => [0x48]
  | .ldCC => [0x49]
  | .ldCD => [0x4A]
  | .ldCE => [0x4B]
  | .ldCH => [0x4C]
  | .ldCL => [0x4D]
  | .ldCIndHL => [0x4E]
  | .ldCA => [0x4F]
  | .ldDB => [0x50]
  | .ldDC => [0x51]
  | .ldDD => [0x52]
  | .ldDE => [0x53]
  | .ldDH => [0x54]
  | .ldDL => [0x55]
  | .ldDIndHL => [0x56]
  | .ldDA => [0x57]
  | .ldEB => [0x58]
  | .ldEC => [0x59]
  | .ldED => [0x5A]
  | .ldEE => [0x5B]
  | .ldEH => [0x5C]
  | .ldEL => [0x5D]
  | .ldEIndHL => [0x5E]
  | .ldEA => [0x5F]
  | .ldHB => [0x60]
  | .ldHC => [0x61]
  | .ldHD => [0x62]
  | .ldHE => [0x63]
  | .ldHH => [0x64]
  | .ldHL => [0x65]
  | .ldHIndHL => [0x66]
  | .ldHA => [0x67]
  | .ldLB => [0x68]
  | .ldLC => [0x69]
  | .ldLD => [0x6A]
  | .ldLE => [0x6B]
  | .ldLH => [0x6C]
  | .ldLL => [0x6D]
  | .ldLIndHL => [0x6E]
  | .ldLA => [0x6F]
  | .ldIndHLB => [0x70]
  | .ldIndHLC => [0x71]
  | .ldIndHLD => [0x72]
  | .ldIndHLE => [0x73]
  | .ldIndHLH => [0x74]
  | .ldIndHLL => [0x75]
  | .halt => [0x76]
  | .ldIndHLA => [0x77]
  | .ldAB => [0x78]
  | .ldAC => [0x79]
  | .ldAD => [0x7A]
  | .ldAE => [0x7B]
  | .ldAH => [0x7C]
  | .ldAL => [0x7D]
  | .ldAIndHL => [0x7E]
  | .ldAA => [0x7F]
  | .addAB => [0x80]
  | .addAC => [0x81]
  | .addAD => [0x82]
  | .addAE => [0x83]
  | .addAH => [0x84]
  | .addAL => [0x85]
  | .addAIndHL => [0x86]
  | .addAA => [0x87]
  | .adcAB => [0x88]
  | .adcAC => [0x89]
  | .adcAD => [0x8A]
  | .adcAE => [0x8B]
  | .adcAH => [0x8C]
  | .adcAL => [0x8D]
  | .adcAIndHL => [0x8E]
  | .adcAA => [0x8F]
  | .subB => [0x90]
  | .subC => [0x91]
  | .subD => [0x92]
  | .subE => [0x93]
  | .subH => [0x94]
  | .subL => [0x95]
  | .subIndHL => [0x96]
  | .subA => [0x97]
  | .sbcAB => [0x98]
  | .sbcAC => [0x99]
  | .sbcAD => [0x9A]
  | .sbcAE => [0x9B]
  | .sbcAH => [0x9C]
  | .sbcAL => [0x9D]
  | .sbcAIndHL => [0x9E]
  | .sbcAA => [0x9F]
  | .andB => [0xA0]
  | .andC => [0xA1]
  | .andD => [0xA2]
  | .andE => [0xA3]
  | .andH => [0xA4]
  | .andL => [0xA5]
  | .andIndHL => [0xA6]
  | .andA => [0xA7]
  | .xorB => [0xA8]
  | .xorC => [0xA9]
  | .xorD => [0xAA]
  | .xorE => [0xAB]
  | .xorH => [0xAC]
  | .xorL => [0xAD]
  | .xorIndHL => [0xAE]
  | .xorA => [0xAF]
  | .orB => [0xB0]
  | .orC => [0xB1]
  | .orD => [0xB2]
  | .orE => [0xB3]
  | .orH => [0xB4]
  | .orL => [0xB5]
  | .orIndHL => [0xB6]
  | .orA => [0xB7]
  | .cpB => [0xB8]
  | .cpC => [0xB9]
  | .cpD => [0xBA]
  | .cpE => [0xBB]
  | .cpH => [0xBC]
  | .cpL => [0xBD]
  | .cpIndHL => [0xBE]
  | .cpA => [0xBF]
  | .retNZ => [0xC0]
  | .popBC => [0xC1]
  | .jpNZNn nn => [0xC2, loByte nn, hiByte nn]
  | .jpNn nn => [0xC3, loByte nn, hiByte nn]
  | .callNZNn nn => [0xC4, loByte nn, hiByte nn]
  | .pushBC => [0xC5]
  | .addAN n => [0xC6, n]
  | .rst00 => [0xC7]
  | .retZ => [0xC8]
  | .ret => [0xC9]
  | .jpZNn nn => [0xCA, loByte nn, hiByte nn]
  | .prefixCB => [0xCB]
  | .callZNn nn => [0xCC, loByte nn, hiByte nn]
  | .callNn nn => [0xCD, loByte nn, hiByte nn]
  | .adcAN n => [0xCE, n]
  | .rst08 => [0xCF]
  | .retNC => [0xD0]
  | .popDE => [0xD1]
  | .jpNCNn nn => [0xD2, loByte nn, hiByte nn]
  | .unimplD3 => [0xD3]
  | .callNCNn nn => [0xD4, loByte nn, hiByte nn]
  | .pushDE => [0xD5]
  | .subN n => [0xD6, n]
  | .rst10 => [0xD7]
  | .retC => [0xD8]
  | .reti => [0xD9]
  | .jpCNn nn => [0xDA, loByte nn, hiByte nn]
  | .unimplDB => [0xDB]
  | .callCNn nn => [0xDC, loByte nn, hiByte nn]
  | .unimplDD => [0xDD]
  | .sbcAN n => [0xDE, n]
  | .rst18 => [0xDF]
  | .ldhNA n => [0xE0, n]
  | .popHL => [0xE1]
  | .ldhCA => [0xE2]
  | .unimplE3 => [0xE3]
  | .unimplE4 => [0xE4]
  | .pushHL => [0xE5]
  | .andN n => [0xE6, n]
  | .rst20 => [0xE7]
  | .addSPE e => [0xE8, e]
  | .jpHL => [0xE9]
  | .ldIndNnA nn => [0xEA, loByte nn, hiByte nn]
  | .unimplEB => [0xEB]
  | .unimplEC => [0xEC]
  | .unimplED => [0xED]
  | .xorN n => [0xEE, n]
  | .rst28 => [0xEF]
  | .ldhAN n => [0xF0, n]
  | .popAF => [0xF1]
  | .ldhAC => [0xF2]
  | .di => [0xF3]
  | .unimplF4 => [0xF4]
  | .pushAF => [0xF5]
  | .orN n => [0xF6, n]
  | .rst30 => [0xF7]
  | .ldHLSPE e => [0xF8, e]
  | .ldSPHL => [0xF9]
  | .ldAIndNn nn => [0xFA, loByte nn, hiByte nn]
  | .ei => [0xFB]
  | .unimplFC => [0xFC]
  | .unimplFD => [0xFD]
  | .cpN n => [0xFE, n]
  | .rst38 => [0xFF]
  | .rlcB => [0xCB, 0x00]
  | .rlcC => [0xCB, 0x01]
  | .rlcD => [0xCB, 0x02]
  | .rlcE => [0xCB, 0x03]
  | .rlcH => [0xCB, 0x04]
  | .rlcL => [0xCB, 0x05]
  | .rlcIndHL => [0xCB, 0x06]
  | .rlcA => [0xCB, 0x07]
  | .rrcB => [0xCB, 0x08]
  | .rrcC => [0xCB, 0x09]
  | .rrcD => [0xCB, 0x0A]
  | .rrcE => [0xCB, 0x0B]
  | .rrcH => [0xCB, 0x0C]
  | .rrcL => [0xCB, 0x0D]
  | .rrcIndHL => [0xCB, 0x0E]
  | .rrcA => [0xCB, 0x0F]
  | .rlB => [0xCB, 0x10]
  | .rlC => [0xCB, 0x11]
  | .rlD => [0xCB, 0x12]
  | .rlE => [0xCB, 0x13]
  | .rlH => [0xCB, 0x14]
  | .rlL => [0xCB, 0x15]
  | .rlIndHL => [0xCB, 0x16]
  | .rlA => [0xCB, 0x17]
  | .rrB => [0xCB, 0x18]
  | .rrC => [0xCB, 0x19]
  | .rrD => [0xCB, 0x1A]
  | .rrE => [0xCB, 0x1B]
  | .rrH => [0xCB, 0x1C]
  | .rrL => [0xCB, 0x1D]
  | .rrIndHL => [0xCB, 0x1E]
  | .rrA => [0xCB, 0x1F]
  | .slaB => [0xCB, 0x20]
  | .slaC => [0xCB, 0x21]
  | .slaD => [0xCB, 0x22]
  | .slaE => [0xCB, 0x23]
  | .slaH => [0xCB, 0x24]
  | .slaL => [0xCB, 0x25]
  | .slaIndHL => [0xCB, 0x26]
  | .slaA => [0xCB, 0x27]
  | .sraB => [0xCB, 0x28]
  | .sraC => [0xCB, 0x29]
  | .sraD => [0xCB, 0x2A]
  | .sraE => [0xCB, 0x2B]
  | .sraH => [0xCB, 0x2C]
  | .sraL => [0xCB, 0x2D]
  | .sraIndHL => [0xCB, 0x2E]
  | .sraA => [0xCB, 0x2F]
  | .swapB => [0xCB, 0x30]
  | .swapC => [0xCB, 0x31]
  | .swapD => [0xCB, 0x32]
  | .swapE => [0xCB, 0x33]
  | .swapH => [0xCB, 0x34]
  | .swapL => [0xCB, 0x35]
  | .swapIndHL => [0xCB, 0x36]
  | .swapA => [0xCB, 0x37]
  | .srlB => [0xCB, 0x38]
  | .srlC => [0xCB, 0x39]
  | .srlD => [0xCB, 0x3A]
  | .srlE => [0xCB, 0x3B]
  | .srlH => [0xCB, 0x3C]
  | .srlL => [0xCB, 0x3D]
  | .srlIndHL => [0xCB, 0x3E]
  | .srlA => [0xCB, 0x3F]
  | .bit0B => [0xCB, 0x40]
  | .bit0C => [0xCB, 0x41]
  | .bit0D => [0xCB, 0x42]
  | .bit0E => [0xCB, 0x43]
  | .bit0H => [0xCB, 0x44]
  | .bit0L => [0xCB, 0x45]
  | .bit0IndHL => [0xCB, 0x46]
  | .bit0A => [0xCB, 0x47]
  | .bit1B => [0xCB, 0x48]
  | .bit1C => [0xCB, 0x49]
  | .bit1D => [0xCB, 0x4A]
  | .bit1E => [0xCB, 0x4B]
  | .bit1H => [0xCB, 0x4C]
  | .bit1L => [0xCB, 0x4D]
  | .bit1IndHL => [0xCB, 0x4E]
  | .bit1A => [0xCB, 0x4F]
  | .bit2B => [0xCB, 0x50]
  | .bit2C => [0xCB, 0x51]
  | .bit2D => [0xCB, 0x52]
  | .bit2E => [0xCB, 0x53]
  | .bit2H => [0xCB, 0x54]
  | .bit2L => [0xCB, 0x55]
  | .bit2IndHL => [0xCB, 0x56]
  | .bit2A => [0xCB, 0x57]
  | .bit3B => [0xCB, 0x58]
  | .bit3C => [0xCB, 0x59]
  | .bit3D => [0xCB, 0x5A]
  | .bit3E => [0xCB, 0x5B]
  | .bit3H => [0xCB, 0x5C]
  | .bit3L => [0xCB, 0x5D]
  | .bit3IndHL => [0xCB, 0x5E]
  | .bit3A => [0xCB, 0x5F]
  | .bit4B => [0xCB, 0x60]
  | .bit4C => [0xCB, 0x61]
  | .bit4D => [0xCB, 0x62]
  | .bit4E => [0xCB, 0x63]
  | .bit4H => [0xCB, 0x64]
  | .bit4L => [0xCB, 0x65]
  | .bit4IndHL => [0xCB, 0x66]
  | .bit4A => [0xCB, 0x67]
  | .bit5B => [0xCB, 0x68]
  | .bit5C => [0xCB, 0x69]
  | .bit5D => [0xCB, 0x6A]
  | .bit5E => [0xCB, 0x6B]
  | .bit5H => [0xCB, 0x6C]
  | .bit5L => [0xCB, 0x6D]
  | .bit5IndHL => [0xCB, 0x6E]
  | .bit5A => [0xCB, 0x6F]
  | .bit6B => [0xCB, 0x70]
  | .bit6C => [0xCB, 0x71]
  | .bit6D => [0xCB, 0x72]
  | .bit6E => [0xCB, 0x73]
  | .bit6H => [0xCB, 0x74]
  | .bit6L => [0xCB, 0x75]
  | .bit6IndHL => [0xCB, 0x76]
  | .bit6A => [0xCB, 0x77]
  | .bit7B => [0xCB, 0x78]
  | .bit7C => [0xCB, 0x79]
  | .bit7D => [0xCB, 0x7A]
  | .bit7E => [0xCB, 0x7B]
  | .bit7H => [0xCB, 0x7C]
  | .bit7L => [0xCB, 0x7D]
  | .bit7IndHL => [0xCB, 0x7E]
  | .bit7A => [0xCB, 0x7F]
  | .res0B => [0xCB, 0x80]
  | .res0C => [0xCB, 0x81]
  | .res0D => [0xCB, 0x82]
  | .res0E => [0xCB, 0x83]
  | .res0H => [0xCB, 0x84]
  | .res0L => [0xCB, 0x85]
  | .res0IndHL => [0xCB, 0x86]
  | .res0A => [0xCB, 0x87]
  | .res1B => [0xCB, 0x88]
  | .res1C => [0xCB, 0x89]
  | .res1D => [0xCB, 0x8A]
  | .res1E => [0xCB, 0x8B]
  | .res1H => [0xCB, 0x8C]
  | .res1L => [0xCB, 0x8D]
  | .res1IndHL => [0xCB, 0x8E]
  | .res1A => [0xCB, 0x8F]
  | .res2B => [0xCB, 0x90]
  | .res2C => [0xCB, 0x91]
  | .res2D => [0xCB, 0x92]
  | .res2E => [0xCB, 0x93]
  | .res2H => [0xCB, 0x94]
  | .res2L => [0xCB, 0x95]
  | .res2IndHL => [0xCB, 0x96]
  | .res2A => [0xCB, 0x97]
  | .res3B => [0xCB, 0x98]
  | .res3C => [0xCB, 0x99]
  | .res3D => [0xCB, 0x9A]
  | .res3E => [0xCB, 0x9B]
  | .res3H => [0xCB, 0x9C]
  | .res3L => [0xCB, 0x9D]
  | .res3IndHL => [0xCB, 0x9E]
  | .res3A => [0xCB, 0x9F]
  | .res4B => [0xCB, 0xA0]
  | .res4C => [0xCB, 0xA1]
  | .res4D => [0xCB, 0xA2]
  | .res4E => [0xCB, 0xA3]
  | .res4H => [0xCB, 0xA4]
  | .res4L => [0xCB, 0xA5]
  | .res4IndHL => [0xCB, 0xA6]
  | .res4A => [0xCB, 0xA7]
  | .res5B => [0xCB, 0xA8]
  | .res5C => [0xCB, 0xA9]
  | .res5D => [0xCB, 0xAA]
  | .res5E => [0xCB, 0xAB]
  | .res5H => [0xCB, 0xAC]
  | .res5L => [0xCB, 0xAD]
  | .res5IndHL => [0xCB, 0xAE]
  | .res5A => [0xCB, 0xAF]
  | .res6B => [0xCB, 0xB0]
  | .res6C => [0xCB, 0xB1]
  | .res6D => [0xCB, 0xB2]
  | .res6E => [0xCB, 0xB3]
  | .res6H => [0xCB, 0xB4]
  | .res6L => [0xCB, 0xB5]
  | .res6IndHL => [0xCB, 0xB6]
  | .res6A => [0xCB, 0xB7]
  | .res7B => [0xCB, 0xB8]
  | .res7C => [0xCB, 0xB9]
  | .res7D => [0xCB, 0xBA]
  | .res7E => [0xCB, 0xBB]
  | .res7H => [0xCB, 0xBC]
  | .res7L => [0xCB, 0xBD]
  | .res7IndHL => [0xCB, 0xBE]
  | .res7A => [0xCB, 0xBF]
  | .set0B => [0xCB, 0xC0]
  | .set0C => [0xCB, 0xC1]
  | .set0D => [0xCB, 0xC2]
  | .set0E => [0xCB, 0xC3]
  | .set0H => [0xCB, 0xC4]
  | .set0L => [0xCB, 0xC5]
  | .set0IndHL => [0xCB, 0xC6]
  | .set0A => [0xCB, 0xC7]
  | .set1B => [0xCB, 0xC8]
  | .set1C => [0xCB, 0xC9]
  | .set1D => [0xCB, 0xCA]
  | .set1E => [0xCB, 0xCB]
  | .set1H => [0xCB, 0xCC]
  | .set1L => [0xCB, 0xCD]
  | .set1IndHL => [0xCB, 0xCE]
  | .set1A => [0xCB, 0xCF]
  | .set2B => [0xCB, 0xD0]
  | .set2C => [0xCB, 0xD1]
  | .set2D => [0xCB, 0xD2]
  | .set2E => [0xCB, 0xD3]
  | .set2H => [0xCB, 0xD4]
  | .set2L => [0xCB, 0xD5]
  | .set2IndHL => [0xCB, 0xD6]
  | .set2A => [0xCB, 0xD7]
  | .set3B => [0xCB, 0xD8]
  | .set3C => [0xCB, 0xD9]
  | .set3D => [0xCB, 0xDA]
  | .set3E => [0xCB, 0xDB]
  | .set3H => [0xCB, 0xDC]
  | .set3L => [0xCB, 0xDD]
  | .set3IndHL => [0xCB, 0xDE]
  | .set3A => [0xCB, 0xDF]
  | .set4B => [0xCB, 0xE0]
  | .set4C => [0xCB, 0xE1]
  | .set4D => [0xCB, 0xE2]
  | .set4E => [0xCB, 0xE3]
  | .set4H => [0xCB, 0xE4]
  | .set4L => [0xCB, 0xE5]
  | .set4IndHL => [0xCB, 0xE6]
  | .set4A => [0xCB, 0xE7]
  | .set5B => [0xCB, 0xE8]
  | .set5C => [0xCB, 0xE9]
  | .set5D => [0xCB, 0xEA]
  | .set5E => [0xCB, 0xEB]
  | .set5H => [0xCB, 0xEC]
  | .set5L => [0xCB, 0xED]
  | .set5IndHL => [0xCB, 0xEE]
  | .set5A => [0xCB, 0xEF]
  | .set6B => [0xCB, 0xF0]
  | .set6C => [0xCB, 0xF1]
  | .set6D => [0xCB, 0xF2]
  | .set6E => [0xCB, 0xF3]
  | .set6H => [0xCB, 0xF4]
  | .set6L => [0xCB, 0xF5]
  | .set6IndHL => [0xCB, 0xF6]
  | .set6A => [0xCB, 0xF7]
  | .set7B => [0xCB, 0xF8]
  | .set7C => [0xCB, 0xF9]
  | .set7D => [0xCB, 0xFA]
  | .set7E => [0xCB, 0xFB]
  | .set7H => [0xCB, 0xFC]
  | .set7L => [0xCB, 0xFD]
  | .set7IndHL => [0xCB, 0xFE]
  | .set7A => [0xCB, 0xFF]

namespace Instr

/-- `LD d,s`, pattern `01dddsss` (R96, R110). -/
def ldRegReg : Reg8 → Reg8 → Instr
  | .b, .b => .ldBB
  | .b, .c => .ldBC
  | .b, .d => .ldBD
  | .b, .e => .ldBE
  | .b, .h => .ldBH
  | .b, .l => .ldBL
  | .b, .a => .ldBA
  | .c, .b => .ldCB
  | .c, .c => .ldCC
  | .c, .d => .ldCD
  | .c, .e => .ldCE
  | .c, .h => .ldCH
  | .c, .l => .ldCL
  | .c, .a => .ldCA
  | .d, .b => .ldDB
  | .d, .c => .ldDC
  | .d, .d => .ldDD
  | .d, .e => .ldDE
  | .d, .h => .ldDH
  | .d, .l => .ldDL
  | .d, .a => .ldDA
  | .e, .b => .ldEB
  | .e, .c => .ldEC
  | .e, .d => .ldED
  | .e, .e => .ldEE
  | .e, .h => .ldEH
  | .e, .l => .ldEL
  | .e, .a => .ldEA
  | .h, .b => .ldHB
  | .h, .c => .ldHC
  | .h, .d => .ldHD
  | .h, .e => .ldHE
  | .h, .h => .ldHH
  | .h, .l => .ldHL
  | .h, .a => .ldHA
  | .l, .b => .ldLB
  | .l, .c => .ldLC
  | .l, .d => .ldLD
  | .l, .e => .ldLE
  | .l, .h => .ldLH
  | .l, .l => .ldLL
  | .l, .a => .ldLA
  | .a, .b => .ldAB
  | .a, .c => .ldAC
  | .a, .d => .ldAD
  | .a, .e => .ldAE
  | .a, .h => .ldAH
  | .a, .l => .ldAL
  | .a, .a => .ldAA

/-- `LD r,n`, pattern `00rrr110 n` (R96, R111). -/
def ldRegN : Reg8 → Byte → Instr
  | .b, n => .ldBN n
  | .c, n => .ldCN n
  | .d, n => .ldDN n
  | .e, n => .ldEN n
  | .h, n => .ldHN n
  | .l, n => .ldLN n
  | .a, n => .ldAN n

/-- `LD r,(HL)`, pattern `01rrr110` (R96, R112). -/
def ldRegIndHL : Reg8 → Instr
  | .b => .ldBIndHL
  | .c => .ldCIndHL
  | .d => .ldDIndHL
  | .e => .ldEIndHL
  | .h => .ldHIndHL
  | .l => .ldLIndHL
  | .a => .ldAIndHL

/-- `LD (HL),r`, pattern `01110rrr` (R96, R113). -/
def ldIndHLReg : Reg8 → Instr
  | .b => .ldIndHLB
  | .c => .ldIndHLC
  | .d => .ldIndHLD
  | .e => .ldIndHLE
  | .h => .ldIndHLH
  | .l => .ldIndHLL
  | .a => .ldIndHLA

/-- `LD rr,nn`, pattern `00rr0001 nn` (R96, R140). -/
def ldPairNn : Pair → Word → Instr
  | .bc, nn => .ldBCNn nn
  | .de, nn => .ldDENn nn
  | .hl, nn => .ldHLNn nn
  | .sp, nn => .ldSPNn nn

/-- `PUSH qq`, pattern `11qq0101` (R96, R144). -/
def push : StackPair → Instr
  | .bc => .pushBC
  | .de => .pushDE
  | .hl => .pushHL
  | .af => .pushAF

/-- `POP qq`, pattern `11qq0001` (R96, R145). -/
def pop : StackPair → Instr
  | .bc => .popBC
  | .de => .popDE
  | .hl => .popHL
  | .af => .popAF

/-- `ALU A,r`, pattern `10aaarrr` (R96, R161 to R184). -/
def aluReg : AluOp → Reg8 → Instr
  | .add, .b => .addAB
  | .add, .c => .addAC
  | .add, .d => .addAD
  | .add, .e => .addAE
  | .add, .h => .addAH
  | .add, .l => .addAL
  | .add, .a => .addAA
  | .adc, .b => .adcAB
  | .adc, .c => .adcAC
  | .adc, .d => .adcAD
  | .adc, .e => .adcAE
  | .adc, .h => .adcAH
  | .adc, .l => .adcAL
  | .adc, .a => .adcAA
  | .sub, .b => .subB
  | .sub, .c => .subC
  | .sub, .d => .subD
  | .sub, .e => .subE
  | .sub, .h => .subH
  | .sub, .l => .subL
  | .sub, .a => .subA
  | .sbc, .b => .sbcAB
  | .sbc, .c => .sbcAC
  | .sbc, .d => .sbcAD
  | .sbc, .e => .sbcAE
  | .sbc, .h => .sbcAH
  | .sbc, .l => .sbcAL
  | .sbc, .a => .sbcAA
  | .and, .b => .andB
  | .and, .c => .andC
  | .and, .d => .andD
  | .and, .e => .andE
  | .and, .h => .andH
  | .and, .l => .andL
  | .and, .a => .andA
  | .xor, .b => .xorB
  | .xor, .c => .xorC
  | .xor, .d => .xorD
  | .xor, .e => .xorE
  | .xor, .h => .xorH
  | .xor, .l => .xorL
  | .xor, .a => .xorA
  | .or, .b => .orB
  | .or, .c => .orC
  | .or, .d => .orD
  | .or, .e => .orE
  | .or, .h => .orH
  | .or, .l => .orL
  | .or, .a => .orA
  | .cp, .b => .cpB
  | .cp, .c => .cpC
  | .cp, .d => .cpD
  | .cp, .e => .cpE
  | .cp, .h => .cpH
  | .cp, .l => .cpL
  | .cp, .a => .cpA

/-- `ALU A,(HL)`, pattern `10aaa110` (R96). -/
def aluIndHL : AluOp → Instr
  | .add => .addAIndHL
  | .adc => .adcAIndHL
  | .sub => .subIndHL
  | .sbc => .sbcAIndHL
  | .and => .andIndHL
  | .xor => .xorIndHL
  | .or => .orIndHL
  | .cp => .cpIndHL

/-- `ALU A,n`, pattern `11aaa110 n` (R96). -/
def aluN : AluOp → Byte → Instr
  | .add, n => .addAN n
  | .adc, n => .adcAN n
  | .sub, n => .subN n
  | .sbc, n => .sbcAN n
  | .and, n => .andN n
  | .xor, n => .xorN n
  | .or, n => .orN n
  | .cp, n => .cpN n

/-- `INC r`, pattern `00rrr100` (R96, R185). -/
def incReg : Reg8 → Instr
  | .b => .incB
  | .c => .incC
  | .d => .incD
  | .e => .incE
  | .h => .incH
  | .l => .incL
  | .a => .incA

/-- `DEC r`, pattern `00rrr101` (R96, R187). -/
def decReg : Reg8 → Instr
  | .b => .decB
  | .c => .decC
  | .d => .decD
  | .e => .decE
  | .h => .decH
  | .l => .decL
  | .a => .decA

/-- `ADD HL,rr`, pattern `00rr1001` (R96, R200). -/
def addHLPair : Pair → Instr
  | .bc => .addHLBC
  | .de => .addHLDE
  | .hl => .addHLHL
  | .sp => .addHLSP

/-- `INC rr`, pattern `00rr0011` (R96, R201). -/
def incPair : Pair → Instr
  | .bc => .incBC
  | .de => .incDE
  | .hl => .incHL
  | .sp => .incSP

/-- `DEC rr`, pattern `00rr1011` (R96, R202). -/
def decPair : Pair → Instr
  | .bc => .decBC
  | .de => .decDE
  | .hl => .decHL
  | .sp => .decSP

/-- The prefixed rotates and shifts on a register, pattern `CB 00yyyrrr` (R97, R214). -/
def rotReg : RotOp → Reg8 → Instr
  | .rlc, .b => .rlcB
  | .rlc, .c => .rlcC
  | .rlc, .d => .rlcD
  | .rlc, .e => .rlcE
  | .rlc, .h => .rlcH
  | .rlc, .l => .rlcL
  | .rlc, .a => .rlcA
  | .rrc, .b => .rrcB
  | .rrc, .c => .rrcC
  | .rrc, .d => .rrcD
  | .rrc, .e => .rrcE
  | .rrc, .h => .rrcH
  | .rrc, .l => .rrcL
  | .rrc, .a => .rrcA
  | .rl, .b => .rlB
  | .rl, .c => .rlC
  | .rl, .d => .rlD
  | .rl, .e => .rlE
  | .rl, .h => .rlH
  | .rl, .l => .rlL
  | .rl, .a => .rlA
  | .rr, .b => .rrB
  | .rr, .c => .rrC
  | .rr, .d => .rrD
  | .rr, .e => .rrE
  | .rr, .h => .rrH
  | .rr, .l => .rrL
  | .rr, .a => .rrA
  | .sla, .b => .slaB
  | .sla, .c => .slaC
  | .sla, .d => .slaD
  | .sla, .e => .slaE
  | .sla, .h => .slaH
  | .sla, .l => .slaL
  | .sla, .a => .slaA
  | .sra, .b => .sraB
  | .sra, .c => .sraC
  | .sra, .d => .sraD
  | .sra, .e => .sraE
  | .sra, .h => .sraH
  | .sra, .l => .sraL
  | .sra, .a => .sraA
  | .swap, .b => .swapB
  | .swap, .c => .swapC
  | .swap, .d => .swapD
  | .swap, .e => .swapE
  | .swap, .h => .swapH
  | .swap, .l => .swapL
  | .swap, .a => .swapA
  | .srl, .b => .srlB
  | .srl, .c => .srlC
  | .srl, .d => .srlD
  | .srl, .e => .srlE
  | .srl, .h => .srlH
  | .srl, .l => .srlL
  | .srl, .a => .srlA

/-- The prefixed rotates and shifts on the byte at HL, pattern `CB 00yyy110` (R97, R214). -/
def rotIndHL : RotOp → Instr
  | .rlc => .rlcIndHL
  | .rrc => .rrcIndHL
  | .rl => .rlIndHL
  | .rr => .rrIndHL
  | .sla => .slaIndHL
  | .sra => .sraIndHL
  | .swap => .swapIndHL
  | .srl => .srlIndHL

/-- `BIT b,r`, pattern `CB 01bbbrrr` (R97, R214). -/
def bitReg : Fin 8 → Reg8 → Instr
  | 0, .b => .bit0B
  | 0, .c => .bit0C
  | 0, .d => .bit0D
  | 0, .e => .bit0E
  | 0, .h => .bit0H
  | 0, .l => .bit0L
  | 0, .a => .bit0A
  | 1, .b => .bit1B
  | 1, .c => .bit1C
  | 1, .d => .bit1D
  | 1, .e => .bit1E
  | 1, .h => .bit1H
  | 1, .l => .bit1L
  | 1, .a => .bit1A
  | 2, .b => .bit2B
  | 2, .c => .bit2C
  | 2, .d => .bit2D
  | 2, .e => .bit2E
  | 2, .h => .bit2H
  | 2, .l => .bit2L
  | 2, .a => .bit2A
  | 3, .b => .bit3B
  | 3, .c => .bit3C
  | 3, .d => .bit3D
  | 3, .e => .bit3E
  | 3, .h => .bit3H
  | 3, .l => .bit3L
  | 3, .a => .bit3A
  | 4, .b => .bit4B
  | 4, .c => .bit4C
  | 4, .d => .bit4D
  | 4, .e => .bit4E
  | 4, .h => .bit4H
  | 4, .l => .bit4L
  | 4, .a => .bit4A
  | 5, .b => .bit5B
  | 5, .c => .bit5C
  | 5, .d => .bit5D
  | 5, .e => .bit5E
  | 5, .h => .bit5H
  | 5, .l => .bit5L
  | 5, .a => .bit5A
  | 6, .b => .bit6B
  | 6, .c => .bit6C
  | 6, .d => .bit6D
  | 6, .e => .bit6E
  | 6, .h => .bit6H
  | 6, .l => .bit6L
  | 6, .a => .bit6A
  | 7, .b => .bit7B
  | 7, .c => .bit7C
  | 7, .d => .bit7D
  | 7, .e => .bit7E
  | 7, .h => .bit7H
  | 7, .l => .bit7L
  | 7, .a => .bit7A

/-- `BIT b,(HL)`, pattern `CB 01bbb110` (R97, R214). -/
def bitIndHL : Fin 8 → Instr
  | 0 => .bit0IndHL
  | 1 => .bit1IndHL
  | 2 => .bit2IndHL
  | 3 => .bit3IndHL
  | 4 => .bit4IndHL
  | 5 => .bit5IndHL
  | 6 => .bit6IndHL
  | 7 => .bit7IndHL

/-- `RES b,r`, pattern `CB 10bbbrrr` (R97, R214). -/
def resReg : Fin 8 → Reg8 → Instr
  | 0, .b => .res0B
  | 0, .c => .res0C
  | 0, .d => .res0D
  | 0, .e => .res0E
  | 0, .h => .res0H
  | 0, .l => .res0L
  | 0, .a => .res0A
  | 1, .b => .res1B
  | 1, .c => .res1C
  | 1, .d => .res1D
  | 1, .e => .res1E
  | 1, .h => .res1H
  | 1, .l => .res1L
  | 1, .a => .res1A
  | 2, .b => .res2B
  | 2, .c => .res2C
  | 2, .d => .res2D
  | 2, .e => .res2E
  | 2, .h => .res2H
  | 2, .l => .res2L
  | 2, .a => .res2A
  | 3, .b => .res3B
  | 3, .c => .res3C
  | 3, .d => .res3D
  | 3, .e => .res3E
  | 3, .h => .res3H
  | 3, .l => .res3L
  | 3, .a => .res3A
  | 4, .b => .res4B
  | 4, .c => .res4C
  | 4, .d => .res4D
  | 4, .e => .res4E
  | 4, .h => .res4H
  | 4, .l => .res4L
  | 4, .a => .res4A
  | 5, .b => .res5B
  | 5, .c => .res5C
  | 5, .d => .res5D
  | 5, .e => .res5E
  | 5, .h => .res5H
  | 5, .l => .res5L
  | 5, .a => .res5A
  | 6, .b => .res6B
  | 6, .c => .res6C
  | 6, .d => .res6D
  | 6, .e => .res6E
  | 6, .h => .res6H
  | 6, .l => .res6L
  | 6, .a => .res6A
  | 7, .b => .res7B
  | 7, .c => .res7C
  | 7, .d => .res7D
  | 7, .e => .res7E
  | 7, .h => .res7H
  | 7, .l => .res7L
  | 7, .a => .res7A

/-- `RES b,(HL)`, pattern `CB 10bbb110` (R97, R214). -/
def resIndHL : Fin 8 → Instr
  | 0 => .res0IndHL
  | 1 => .res1IndHL
  | 2 => .res2IndHL
  | 3 => .res3IndHL
  | 4 => .res4IndHL
  | 5 => .res5IndHL
  | 6 => .res6IndHL
  | 7 => .res7IndHL

/-- `SET b,r`, pattern `CB 11bbbrrr` (R97, R214). -/
def setReg : Fin 8 → Reg8 → Instr
  | 0, .b => .set0B
  | 0, .c => .set0C
  | 0, .d => .set0D
  | 0, .e => .set0E
  | 0, .h => .set0H
  | 0, .l => .set0L
  | 0, .a => .set0A
  | 1, .b => .set1B
  | 1, .c => .set1C
  | 1, .d => .set1D
  | 1, .e => .set1E
  | 1, .h => .set1H
  | 1, .l => .set1L
  | 1, .a => .set1A
  | 2, .b => .set2B
  | 2, .c => .set2C
  | 2, .d => .set2D
  | 2, .e => .set2E
  | 2, .h => .set2H
  | 2, .l => .set2L
  | 2, .a => .set2A
  | 3, .b => .set3B
  | 3, .c => .set3C
  | 3, .d => .set3D
  | 3, .e => .set3E
  | 3, .h => .set3H
  | 3, .l => .set3L
  | 3, .a => .set3A
  | 4, .b => .set4B
  | 4, .c => .set4C
  | 4, .d => .set4D
  | 4, .e => .set4E
  | 4, .h => .set4H
  | 4, .l => .set4L
  | 4, .a => .set4A
  | 5, .b => .set5B
  | 5, .c => .set5C
  | 5, .d => .set5D
  | 5, .e => .set5E
  | 5, .h => .set5H
  | 5, .l => .set5L
  | 5, .a => .set5A
  | 6, .b => .set6B
  | 6, .c => .set6C
  | 6, .d => .set6D
  | 6, .e => .set6E
  | 6, .h => .set6H
  | 6, .l => .set6L
  | 6, .a => .set6A
  | 7, .b => .set7B
  | 7, .c => .set7C
  | 7, .d => .set7D
  | 7, .e => .set7E
  | 7, .h => .set7H
  | 7, .l => .set7L
  | 7, .a => .set7A

/-- `SET b,(HL)`, pattern `CB 11bbb110` (R97, R214). -/
def setIndHL : Fin 8 → Instr
  | 0 => .set0IndHL
  | 1 => .set1IndHL
  | 2 => .set2IndHL
  | 3 => .set3IndHL
  | 4 => .set4IndHL
  | 5 => .set5IndHL
  | 6 => .set6IndHL
  | 7 => .set7IndHL

/-- `JP cc,nn`, pattern `110cc010 nn` (R96, R252). -/
def jpCond : Cond → Word → Instr
  | .nz, nn => .jpNZNn nn
  | .z, nn => .jpZNn nn
  | .nc, nn => .jpNCNn nn
  | .c, nn => .jpCNn nn

/-- `JR cc,e`, pattern `001cc000 e` (R96, R255). -/
def jrCond : Cond → Byte → Instr
  | .nz, e => .jrNZE e
  | .z, e => .jrZE e
  | .nc, e => .jrNCE e
  | .c, e => .jrCE e

/-- `CALL cc,nn`, pattern `110cc100 nn` (R96, R257). -/
def callCond : Cond → Word → Instr
  | .nz, nn => .callNZNn nn
  | .z, nn => .callZNn nn
  | .nc, nn => .callNCNn nn
  | .c, nn => .callCNn nn

/-- `RET cc`, pattern `110cc000` (R96, R259). -/
def retCond : Cond → Instr
  | .nz => .retNZ
  | .z => .retZ
  | .nc => .retNC
  | .c => .retC

/-- `RST 8*t`, pattern `11ttt111` (R96, R262). -/
def rst : Fin 8 → Instr
  | 0 => .rst00
  | 1 => .rst08
  | 2 => .rst10
  | 3 => .rst18
  | 4 => .rst20
  | 5 => .rst28
  | 6 => .rst30
  | 7 => .rst38

end Instr

end Sys2Proof
end

