-- ==== Sys2Proof/Machine/Fetch.lean ====
section
/-! DEFINITION. Fetching and decoding an instruction at the program counter (R14, R91 to R94), unmapping the boot image (R56), how
a step ends, and placing an instruction's bytes where the next step fetches them. Reads have no side effect (R54), so the
bytes an instruction may need are read as one window of three. -/

namespace Sys2Proof.Machine

/-- Phase 1 of a step: the boot image is unmapped when PC has reached 0x0100 (R56, R430). -/
def State.unmapBoot (s : State) : State :=
  if s.ctl.bootMapped && s.regs.pc == 0x0100 then { s with ctl := { s.ctl with bootMapped := false } } else s

/-- PC after the opcode fetch: not advanced, once, under the halt quirk (R91). -/
def State.pcAfterOpcode (s : State) : Word := if s.ctl.haltBug then s.regs.pc else s.regs.pc + 1

/-- The opcode byte and the two bytes an instruction's operand fetches would read (R91 to R93). -/
def State.fetchWindow (s : State) : List Byte :=
  [s.memRead s.regs.pc, s.memRead s.pcAfterOpcode, s.memRead (s.pcAfterOpcode + 1)]

/-- The state when an instruction of `len` bytes executes: PC past its last byte, `halt_bug` cleared, the opcode's address noted
(R14, R91, R430). -/
def State.afterFetch (s : State) (len : Nat) : State :=
  { s.setPC (s.pcAfterOpcode + BitVec.ofNat 16 (len - 1)) with
    ctl := { s.ctl with haltBug := false, instrAddr := s.regs.pc, cost := 0 } }

/-- The instruction at the program counter and the state it executes in. -/
def State.fetchInstr (s : State) : Option (Instr × State) :=
  match decode s.fetchWindow with
  | .ok (i, rest) => some (i, s.afterFetch (3 - rest.length))
  | .error _ => none

/-- How a step ends after its instruction: phases 3 to 5, none of which runs when the instruction raised the fault (R430). -/
def State.endStep (s : State) : State := if s.ctl.fault.isSome then s else s.finishStep

/-- A step of the halted CPU: nothing is fetched, the idle cost is propagated (R431). -/
def State.idleStep (s : State) : State := (s.setCost Config.haltIdleCycles).finishStep

/-! ### Placing an instruction for the next step -/

/-- A byte stored at the address is what an opcode or operand fetch from it reads. -/
def State.placeable (s : State) (a : Word) : Bool :=
  let n := a.toNat
  match regionOf n with
  | .romFixed => decide (n < s.plat.cart.romSize) && (!s.ctl.bootMapped || decide (0x100 ≤ n))
  | .romBank => decide (s.bank.romBank * 0x4000 + (n - 0x4000) < s.plat.cart.romSize)
  | .workRam | .echo | .unused | .highRam => true
  | .videoRam | .extRam | .oam | .io | .ie => false

/-- Replace a byte of the cartridge ROM. -/
def State.storeRom (s : State) (i : Nat) (v : Byte) : State :=
  { s with plat := { s.plat with cart := { s.plat.cart with rom := Memory.write s.plat.cart.rom i v } } }

/-- Put a byte where a fetch from the address reads it: the cartridge for a ROM address, memory otherwise. -/
def State.placeByte (s : State) (a : Word) (v : Byte) : State :=
  let n := a.toNat
  match regionOf n with
  | .romFixed => s.storeRom n v
  | .romBank => s.storeRom (s.bank.romBank * 0x4000 + (n - 0x4000)) v
  | .echo => s.storeMem (n - 0x2000) v
  | .workRam | .unused | .highRam => s.storeMem n v
  | .videoRam | .extRam | .oam | .io | .ie => s

/-- Running, with no pending quirk or fault, and PC where three bytes can be placed (moved to work RAM if they cannot). -/
def State.readyToFetch (s : State) : State :=
  let s1 := { s with ctl := { s.ctl with halted := false, haltBug := false, fault := none } }
  let pc := s1.regs.pc
  if s1.placeable pc && s1.placeable (pc + 1) && s1.placeable (pc + 2) then s1 else s1.setPC 0xC000

/-- Three bytes placed at PC. -/
def State.placeAtPC (s : State) (b0 b1 b2 : Byte) : State :=
  let pc := s.regs.pc
  ((s.placeByte pc b0).placeByte (pc + 1) b1).placeByte (pc + 2) b2

end Sys2Proof.Machine
end

