-- ==== Sys2Proof/Machine/Step.lean ====
section
/-! DEFINITION. One step of the machine (R430), and the host's way to place an instruction for it. -/

namespace Sys2Proof.Machine

/-- `Step()` (R430): not enabled once the fault is set (R440); halted, it idles; else it fetches, executes, and runs phases 3 to
5. -/
def step (s : State) : Host.Outcome State Fault Refusal :=
  match s.ctl.fault with
  | some f => .fault f
  | none =>
    let s0 := s.unmapBoot
    if s0.ctl.halted then .next s0.idleStep
    else
      match s0.fetchInstr with
      | none => .refused (.undecodable (s0.memRead s0.regs.pc))
      | some (i, s1) =>
        match exec i s1 with
        | .next s2 => .next s2.endStep
        | .fault f => .fault f
        | .refused r => .refused r

/-- The state whose next step fetches and runs the instruction of a table row's bits (fixed name of the host's): the row's bytes,
with zeros up to three, stand at the program counter. A program is loaded from outside the machine, as the cartridge's ROM; this
stands for that load (log entry 2). -/
def State.withFetchWord (s : State) (nbits w : Nat) : State :=
  let bytes := tableBytes nbits w
  s.readyToFetch.placeAtPC (bytes[0]?.getD 0) (bytes[1]?.getD 0) (bytes[2]?.getD 0)

end Sys2Proof.Machine
end

