-- ==== Sys2Proof/Machine/HostActions.lean ====
section
/-! DEFINITION. What the host may do to the machine between two steps (R454, R470, R480), and what it may read (R348, R392). No
step performs one of these. -/

namespace Sys2Proof.Machine

/-- Reset: every piece of state takes its reset value; the platform stays (R480). -/
def State.hardReset (s : State) : State := State.resetOn s.plat

/-- Loading a cartridge replaces `CART`, then resets (R470). -/
def State.loadCartridge (s : State) (cart : Cart) : State := State.resetOn { s.plat with cart := cart }

/-- Changing the input state: any bit going from released to pressed raises the input-edge flag (R454). -/
def State.setInput (s : State) (mask : Byte) : State :=
  let s1 := { s with plat := { s.plat with input := mask } }
  if mask &&& ~~~s.plat.input = 0 then s1 else s1.raiseIF 0x10

/-- The audio sample pair the host pulls (R392). -/
def State.audioSample (s : State) : Int × Int := s.apu.mix s.mem

/-- The framebuffer shade the host reads at line `y`, column `x` (R348). -/
def State.screenPixel (s : State) (y : Fin 144) (x : Fin 160) : BitVec 2 := (s.ppu.fb[y])[x]

end Sys2Proof.Machine
end

