-- ==== Sys2Proof/Safety.lean ====
section
/-! DEFINITION. What counts as a safe state, in the terms the statements use: the machine can take a step; the invariants the spec
gives its reachable states, each under a name of its own; and the frames, what an instruction leaves as it was. -/

/-! ### Encodings the statements write out -/

namespace Sys2Proof

/-- The decoder reads `i`, and nothing is left over, from these bytes. -/
def Instr.encodedAs (i : Instr) (bytes : List Byte) : Prop := decode bytes = .ok (i, [])

/-- The register index of R10. -/
def Reg8.code : Reg8 → Byte
  | .b => 0
  | .c => 1
  | .d => 2
  | .e => 3
  | .h => 4
  | .l => 5
  | .a => 7

/-- The field `rr` (R140). -/
def Pair.code : Pair → Byte
  | .bc => 0
  | .de => 1
  | .hl => 2
  | .sp => 3

/-- The field `qq` (R144). -/
def StackPair.code : StackPair → Byte
  | .bc => 0
  | .de => 1
  | .hl => 2
  | .af => 3

/-- The field `cc` (R250). -/
def Cond.code : Cond → Byte
  | .nz => 0
  | .z => 1
  | .nc => 2
  | .c => 3

/-- Bits 5:3 of the two-operand ALU opcodes (R161 to R184). -/
def AluOp.code : AluOp → Byte
  | .add => 0
  | .adc => 1
  | .sub => 2
  | .sbc => 3
  | .and => 4
  | .xor => 5
  | .or => 6
  | .cp => 7

/-- The field `y` of the rotate and shift group (R214). -/
def RotOp.code : RotOp → Byte
  | .rlc => 0
  | .rrc => 1
  | .rl => 2
  | .rr => 3
  | .sla => 4
  | .sra => 5
  | .swap => 6
  | .srl => 7

end Sys2Proof

namespace Sys2Proof.Machine

/-- A step is enabled (R430, R440). -/
def State.enabled (s : State) : Prop := s.ctl.fault = none

/-! ### Invariants -/

/-- "the low nibble of the flags register always reads as zero" (R12). -/
def State.flagsClean (s : State) : Prop := s.regs.f &&& 0x0F = 0

/-- Every sparse memory is in its canonical form. -/
def State.memoryCanonical (s : State) : Prop :=
  Memory.wf s.mem = true ∧ Memory.wf s.extRam = true ∧ Memory.wf s.plat.cart.rom = true

/-- The stored bits a register does not have stay 0: STAT 2:0, P1 3:0, NR52 3:0 (R304, R66, R366). -/
def State.storedBitsClean (s : State) : Prop :=
  s.ppu.stat &&& 0x07 = 0 ∧ s.p1 &&& 0x0F = 0 ∧ s.apu.nr52 &&& 0x0F = 0

/-- The timers' cycle counters stay in their ranges, 0..255 and 0..1023 (R20). -/
def Timer.inRange (t : Timer) : Prop := t.divCounter < 256 ∧ t.timaCounter < 1024

/-- The active ROM bank is never 0 and has five bits (R21, R71). -/
def Bank.inRange (k : Bank) : Prop := 1 ≤ k.romBank ∧ k.romBank ≤ 31

/-- The PPU between steps: LY is 0 to 153, 0 to 143 outside VBlank, the accumulator below the mode's budget; switched off it rests
in HBlank of line 0 (R22, R303, R306, R310). -/
def Ppu.inRange (p : Ppu) : Prop :=
  p.ly.toNat ≤ 153 ∧ (p.mode ≠ .vBlank → p.ly.toNat ≤ 143) ∧ p.acc < modeBudget p.mode ∧
    (p.displayOn = false → p.mode = .hBlank ∧ p.ly = 0 ∧ p.acc = 0)

/-- A channel record's counters stay in their ranges (R362); `k` gives the channel's own bounds. -/
def Channel.inRange (k : Chan) (c : Channel) : Prop :=
  c.length ≤ (if k = .ch2 then 256 else 64) ∧ c.phase < (if k = .ch2 then 32 else 8) ∧ c.envTimer ≤ 7 ∧ c.sweepTimer ≤ 7

/-- The APU's counters stay in their ranges (R362, R370). -/
def Apu.inRange (a : Apu) : Prop := a.seqCounter < 8192 ∧ a.seqStep < 8 ∧ ∀ k : Chan, Channel.inRange k (a.ch k)

/-- Between steps the second slot of the global-enable pipeline is empty, and both are while the CPU is halted (R431, R436). -/
def State.pipelineShape (s : State) : Prop :=
  s.irq.pipe1 = none ∧ (s.ctl.halted = true → s.irq.pipe0 = none)

/-- The boot image can be mapped only where there is one (R19). -/
def State.bootShape (s : State) : Prop := s.ctl.bootMapped = true → s.plat.bootImage.isSome = true

/-- The machine's invariant: all of the above. -/
structure State.Inv (s : State) : Prop where
  flags : s.flagsClean
  memory : s.memoryCanonical
  stored : s.storedBitsClean
  timers : s.timer.inRange
  bank : s.bank.inRange
  ppu : s.ppu.inRange
  apu : s.apu.inRange
  pipeline : s.pipelineShape
  boot : s.bootShape

/-! ### Storage behind an address -/

/-- A byte of plain storage: a byte of the 64 KiB image, or a byte of the cartridge's RAM. -/
inductive Storage where
  | image (n : Nat)
  | cartRam (n : Nat)
deriving DecidableEq, Repr

/-- The byte of plain storage an address reaches now, where a bus write stores its byte and a bus read gives it back: accessible
video RAM and object-attribute memory, reachable external RAM, work RAM and its echo, the unused range, high RAM, wave memory and
the other plain I/O bytes. None for the cartridge's ROM, a blocked or disabled region, and every register with behaviour. -/
def State.storageAt (s : State) (a : Word) : Option Storage :=
  let n := a.toNat
  match regionOf n with
  | .romFixed | .romBank | .ie => none
  | .videoRam => if s.videoRamBlocked then none else some (.image n)
  | .extRam => if s.ramReachable then some (.cartRam (s.ramOffset n)) else none
  | .workRam | .unused | .highRam => some (.image n)
  | .echo => some (.image (n - 0x2000))
  | .oam => if s.oamBlocked then none else some (.image n)
  | .io => match ioRegOf n with
    | .plain => some (.image n)
    | _ => none

/-! ### Frames -/

/-- `t` reads every byte of the address space as `s` does. -/
def State.readsLike (s t : State) : Prop := ∀ a : Word, t.memRead a = s.memRead a

/-- From `s` to `t` nothing but the CPU's registers (and `cost`, the cycles the instruction answers with) has changed: the interrupt
state, the run state, timers, memory, bank controller, PPU, APU, P1 and the platform are as before, and every address reads as
before. -/
def State.onlyRegs (s t : State) (cost : Nat) : Prop :=
  t.irq = s.irq ∧ t.ctl = { s.ctl with cost := cost } ∧ t.timer = s.timer ∧ t.mem = s.mem ∧ t.extRam = s.extRam ∧
    t.bank = s.bank ∧ t.ppu = s.ppu ∧ t.apu = s.apu ∧ t.p1 = s.p1 ∧ t.plat = s.plat ∧ s.readsLike t

/-- From `s` to `t` the bus has taken one write of `v` at `a` and nothing else outside the CPU's registers has changed: the run
state (but `cost`), the global enable and its pipeline and the platform are as before, and all the bus can reach is as that write
leaves it. Where the address reaches a byte of plain storage, that byte reads as `v` afterwards, at every address that reaches it,
and every other address reads as before. -/
def State.onlyRegsAndWrite (s t : State) (a : Word) (v : Byte) (cost : Nat) : Prop :=
  let w := s.memWrite a v
  t.irq = w.irq ∧ t.irq.ime = s.irq.ime ∧ t.irq.pipe0 = s.irq.pipe0 ∧ t.irq.pipe1 = s.irq.pipe1 ∧
    t.ctl = { s.ctl with cost := cost } ∧ t.timer = w.timer ∧ t.mem = w.mem ∧ t.extRam = w.extRam ∧ t.bank = w.bank ∧
    t.ppu = w.ppu ∧ t.apu = w.apu ∧ t.p1 = w.p1 ∧ t.plat = s.plat ∧ w.readsLike t ∧
    (∀ c, s.storageAt a = some c → ∀ b, t.memRead b = if s.storageAt b = some c then v else s.memRead b)

/-- The same for two writes, `v1` at `a1` and then `v2` at `a2`. -/
def State.onlyRegsAndWrites (s t : State) (a1 : Word) (v1 : Byte) (a2 : Word) (v2 : Byte) (cost : Nat) : Prop :=
  let w := (s.memWrite a1 v1).memWrite a2 v2
  t.irq = w.irq ∧ t.irq.ime = s.irq.ime ∧ t.irq.pipe0 = s.irq.pipe0 ∧ t.irq.pipe1 = s.irq.pipe1 ∧
    t.ctl = { s.ctl with cost := cost } ∧ t.timer = w.timer ∧ t.mem = w.mem ∧ t.extRam = w.extRam ∧ t.bank = w.bank ∧
    t.ppu = w.ppu ∧ t.apu = w.apu ∧ t.p1 = w.p1 ∧ t.plat = s.plat ∧ w.readsLike t ∧
    (∀ c1 c2, s.storageAt a1 = some c1 → s.storageAt a2 = some c2 →
      ∀ b, t.memRead b =
        if s.storageAt b = some c2 then v2 else if s.storageAt b = some c1 then v1 else s.memRead b)

/-- Every 8-bit register but F is as before, except those of the list. -/
def State.regsKept (s t : State) (but : List Reg8) : Prop := ∀ r : Reg8, r ∉ but → t.reg r = s.reg r

/-- The flags byte holds these four flags in bits 7 to 4 and 0 in bits 3:0 (R12). -/
def State.flagsAre (t : State) (z n h c : Bool) : Prop :=
  t.regs.f.getLsbD 7 = z ∧ t.regs.f.getLsbD 6 = n ∧ t.regs.f.getLsbD 5 = h ∧ t.regs.f.getLsbD 4 = c ∧ t.regs.f &&& 0x0F = 0

/-! ### Operand forms the statements range over -/

/-- Where the second operand of a two-operand ALU instruction comes from (spec/42_alu8.md, operand forms). -/
inductive AluForm where
  | reg (r : Reg8)
  | indHL
  | imm (n : Byte)
deriving DecidableEq, Repr

/-- The instruction of an ALU operation in a form. -/
def AluForm.instr (op : AluOp) : AluForm → Instr
  | .reg r => Instr.aluReg op r
  | .indHL => Instr.aluIndHL op
  | .imm n => Instr.aluN op n

/-- The operand `v` of a form. -/
def AluForm.value (s : State) : AluForm → Byte
  | .reg r => s.reg r
  | .indHL => s.memRead s.hl
  | .imm n => n

/-- The cycles of a form. -/
def AluForm.cost : AluForm → Nat
  | .reg _ => 4
  | .indHL => 8
  | .imm _ => 8

/-- The addresses through which A alone is loaded and stored (R115 to R124). -/
inductive AddrForm where
  | bc
  | de
  | abs (nn : Word)
  | highC
  | high (n : Byte)
deriving DecidableEq, Repr

/-- The load of A from an address form. -/
def AddrForm.load : AddrForm → Instr
  | .bc => .ldAIndBC
  | .de => .ldAIndDE
  | .abs nn => .ldAIndNn nn
  | .highC => .ldhAC
  | .high n => .ldhAN n

/-- The store of A to an address form. -/
def AddrForm.store : AddrForm → Instr
  | .bc => .ldIndBCA
  | .de => .ldIndDEA
  | .abs nn => .ldIndNnA nn
  | .highC => .ldhCA
  | .high n => .ldhNA n

/-- The address of a form. -/
def AddrForm.addr (s : State) : AddrForm → Word
  | .bc => s.bc
  | .de => s.de
  | .abs nn => nn
  | .highC => BitVec.ofNat 16 (0xFF00 + s.regs.c.toNat)
  | .high n => BitVec.ofNat 16 (0xFF00 + n.toNat)

/-- The cycles of a form, load or store. -/
def AddrForm.cost : AddrForm → Nat
  | .bc | .de | .highC => 8
  | .abs _ => 16
  | .high _ => 12

/-! ### Tables of the spec the statements refer to -/

/-- R215 as one function of the operand's bits: bit `k` of the result and the carry out. -/
def rotatedBit (op : RotOp) (v : Byte) (cin : Bool) (k : Nat) : Bool :=
  match op with
  | .rlc => if k = 0 then v.getLsbD 7 else v.getLsbD (k - 1)
  | .rl => if k = 0 then cin else v.getLsbD (k - 1)
  | .sla => if k = 0 then false else v.getLsbD (k - 1)
  | .rrc => if k = 7 then v.getLsbD 0 else v.getLsbD (k + 1)
  | .rr => if k = 7 then cin else v.getLsbD (k + 1)
  | .sra => if k = 7 then v.getLsbD 7 else v.getLsbD (k + 1)
  | .srl => if k = 7 then false else v.getLsbD (k + 1)
  | .swap => if k < 4 then v.getLsbD (k + 4) else v.getLsbD (k - 4)

/-- R215: the carry out. -/
def rotatedCarry (op : RotOp) (v : Byte) : Bool :=
  match op with
  | .rlc | .rl | .sla => v.getLsbD 7
  | .rrc | .rr | .sra | .srl => v.getLsbD 0
  | .swap => false

/-- R250: the condition field, from the flags' bits. -/
def State.holds (s : State) (cc : Cond) : Bool :=
  match cc with
  | .nz => !s.regs.f.getLsbD 7
  | .z => s.regs.f.getLsbD 7
  | .nc => !s.regs.f.getLsbD 4
  | .c => s.regs.f.getLsbD 4

/-- The bytes of an ALU instruction in a form (R161 to R184). -/
def AluForm.bytes (op : AluOp) : AluForm → List Byte
  | .reg r => [0x80 + 8 * op.code + r.code]
  | .indHL => [0x86 + 8 * op.code]
  | .imm n => [0xC6 + 8 * op.code, n]

/-- The bytes of the load of A from an address form (R115, R116, R119, R121, R123). -/
def AddrForm.loadBytes : AddrForm → List Byte
  | .bc => [0x0A]
  | .de => [0x1A]
  | .abs nn => [0xFA, nn.extractLsb' 0 8, nn.extractLsb' 8 8]
  | .highC => [0xF2]
  | .high n => [0xF0, n]

/-- The bytes of the store of A to an address form (R117, R118, R120, R122, R124). -/
def AddrForm.storeBytes : AddrForm → List Byte
  | .bc => [0x02]
  | .de => [0x12]
  | .abs nn => [0xEA, nn.extractLsb' 0 8, nn.extractLsb' 8 8]
  | .highC => [0xE2]
  | .high n => [0xE0, n]

end Sys2Proof.Machine
end

