-- ==== Sys2Proof/Certificates/Slice0/Obligations.lean ====
section
/-! DEFINITION. The statements for the provers, from the spec's numbered rules. In each, `exec i s` is instruction `i` at a state
`s` whose program counter has passed the instruction (R14); `cost` is the cycles it answers with. A statement names the registers
an instruction may change; `onlyRegs` and `onlyRegsAndWrite` say that nothing else of the machine has changed but what the named
write does, and that every address it does not store to reads as before; `encodedAs` gives the bytes the instruction is read from. -/

open Sys2Proof Sys2Proof.Machine

/-! ### The step -/

/-- R430, R91: with no fault set and the CPU running, when the bytes at the program counter decode to `i`, a step is `i` at the
state after the fetch, followed by phases 3 to 5 (none of them when `i` raised the fault). The state after the fetch differs from
the one before in PC (past the instruction's bytes; not advanced after the opcode byte when `halt_bug` is set), in `halt_bug`
(cleared) and in the model's own two fields (the opcode's address; cost 0; log entry 13); phase 1 has unmapped the boot image if PC
was 0x0100. The model's readings in it: the step that raises the fault is a next state (log entry 3) and leaves `halt_bug` cleared and
the boot image unmapped (log entry 8, against R456's "no state has changed"); the bytes are read as one window of three (log entry 7);
STOP carries the second byte that R272 does not fetch (log entry 4). -/
def Obligations.StepRunsDecodedInstruction : Prop :=
  ∀ (s t : State) (i : Instr) (rest : List Byte), s.ctl.fault = none → s.ctl.halted = false →
    let s0 := if s.ctl.bootMapped = true ∧ s.regs.pc = 0x0100 then { s with ctl := { s.ctl with bootMapped := false } } else s
    let next := if s.ctl.haltBug then s.regs.pc else s.regs.pc + 1
    decode [s0.memRead s.regs.pc, s0.memRead next, s0.memRead (next + 1)] = .ok (i, rest) →
    exec i { s0 with
        regs := { s0.regs with pc := next + BitVec.ofNat 16 (2 - rest.length) }
        ctl := { s0.ctl with haltBug := false, instrAddr := s.regs.pc, cost := 0 } } = .next t →
    Sys2Proof.Machine.step s = .next (if t.ctl.fault.isSome then t else (State.tick t.ctl.cost t.imeAdvance).interruptCheck)

/-- R91 to R95: the three bytes an instruction may need always decode; the opcode byte alone says how many of them the instruction
takes, and PC advances by so many (one less when `halt_bug` is set). Of the model, not of these rules: the window of three bytes (log
entry 7), PC passing STOP's second byte, which R272 does not fetch (log entry 4), and the fields `instrAddr` and `cost` (log
entry 13). -/
def Obligations.FetchTakesOpcodeLength : Prop :=
  ∀ s : State, ∃ (i : Instr) (u : State), s.fetchInstr = some (i, u) ∧ WellFormed i = true ∧
    u.regs.pc + (if s.ctl.haltBug then 1 else 0) = s.regs.pc + BitVec.ofNat 16 (opcodeLength (s.memRead s.regs.pc)) ∧
    u.ctl = { s.ctl with haltBug := false, instrAddr := s.regs.pc, cost := 0 } ∧
    u = { s with regs := { s.regs with pc := u.regs.pc }, ctl := u.ctl }

/-- R440, R441: a step is enabled exactly while no fault is set; with the fault set, it stops with that fault; nothing else stops the
machine. Two clauses are the model's own reading: that an enabled step always answers a next state, the step that raises
UnimplementedOpcode among them (log entry 3), and that it leaves the cartridge, the boot image, the input mask and the noise reseed
as they are, they being data of State that only the host changes (log entry 12). -/
def Obligations.StepEnabledExactlyWithoutFault : Prop :=
  ∀ s : State, (s.ctl.fault = none → ∃ t, Sys2Proof.Machine.step s = .next t ∧ t.plat = s.plat) ∧
    (∀ f, s.ctl.fault = some f → Sys2Proof.Machine.step s = .fault f)

/-- R430, R98, R431, R455, R500: what a step adds to the cycle clock: nothing when it ends in the fault; otherwise the cost that the
instruction run answers with (4 for a step of the halted CPU), one of 4, 8, 12, 16, 20, 24, and 5 more exactly when the check that ends
the step finds the global enable set and an enabled source pending. That the step which raises the fault is a next state is the
model's reading (log entry 3), and the field `cost` is its own (log entry 13). -/
def Obligations.CycleClockAdvances : Prop :=
  ∀ s t : State, Sys2Proof.Machine.step s = .next t →
    (t.ctl.fault.isSome = true ∧ t.ctl.cycleClock = s.ctl.cycleClock) ∨
    (t.ctl.fault = none ∧ ∃ w : State,
      (if s.ctl.halted then w = { s.unmapBoot with ctl := { s.unmapBoot.ctl with cost := 4 } }
        else ∃ i u, s.unmapBoot.fetchInstr = some (i, u) ∧ exec i u = .next w) ∧
      w.ctl.cost ∈ [4, 8, 12, 16, 20, 24] ∧
      (let atCheck := State.tick w.ctl.cost w.imeAdvance
       t = atCheck.interruptCheck ∧ t.ctl.cycleClock = s.ctl.cycleClock + w.ctl.cost +
         (if atCheck.irq.ime = true ∧ atCheck.irq.enable &&& atCheck.irq.flags &&& 0x17 ≠ 0 then 5 else 0)))

/-- R431: a step of the halted CPU fetches and executes nothing. It stays halted exactly when no enabled interrupt is pending
after 4 cycles, and then no register and no byte of memory has changed. When the global enable is off it wakes, if it wakes,
without a dispatch: no register has changed. -/
def Obligations.HaltedStepIdles : Prop :=
  ∀ s : State, s.ctl.fault = none → s.ctl.halted = true → ∃ t, Sys2Proof.Machine.step s = .next t ∧
    (t.ctl.halted = true ↔ (State.tick 4 s).irq.enable &&& (State.tick 4 s).irq.flags &&& 0x17 = 0) ∧
    (t.ctl.halted = true ∨ s.irq.pipe0.getD s.irq.ime = false →
      t.regs = s.regs ∧ t.mem = s.mem ∧ t.extRam = s.extRam ∧ t.bank = s.bank ∧ t.ctl.cycleClock = s.ctl.cycleClock + 4)

/-! ### Interrupts and the global enable -/

/-- R453: the check serves nothing when no enabled source is pending; otherwise the CPU is no longer halted, and with the global
enable set exactly one interrupt is dispatched, the one with the lowest bit. -/
def Obligations.InterruptCheckPriority : Prop :=
  ∀ s : State, let pend := s.irq.enable &&& s.irq.flags &&& 0x17
    let awake := { s with ctl := { s.ctl with halted := false } }
    (pend = 0 → s.interruptCheck = s) ∧
    (pend ≠ 0 → s.irq.ime = false → s.interruptCheck = awake) ∧
    (pend ≠ 0 → s.irq.ime = true → ∃ i : Source, s.interruptCheck = awake.dispatch i ∧ pend.getLsbD i.bit = true ∧
      ∀ j : Source, pend.getLsbD j.bit = true → i.bit ≤ j.bit)

/-- R455, R452: taking interrupt `i`. PC is the source's vector, SP is two lower, no other register changes; the global enable is
cleared at once and its pipeline, `halted` and `halt_bug` are left; 5 cycles pass. Where the stack bytes are two bytes of plain
storage, before those cycles pass they hold the old PC, high byte at SP-1, only the serviced bit of IF has been cleared,
and every other address reads as before. -/
def Obligations.DispatchTakesInterrupt : Prop :=
  ∀ (s : State) (i : Source),
    let t := s.dispatch i
    let served := { s with irq := { s.irq with flags := s.irq.flags &&& ~~~((1 : Byte) <<< i.bit), ime := false } }
    t.regs.pc = (match i with | .videoBlank => 0x0040 | .displayStatus => 0x0048 | .timerOverflow => 0x0050 | .inputEdge => 0x0060) ∧
    t.regs.sp = s.regs.sp - 2 ∧ s.regsKept t [] ∧ t.regs.f = s.regs.f ∧ t.irq.ime = false ∧ t.irq.pipe0 = s.irq.pipe0 ∧
    t.irq.pipe1 = s.irq.pipe1 ∧ t.ctl = { s.ctl with cycleClock := s.ctl.cycleClock + 5 } ∧ t.plat = s.plat ∧
    (let u := (served.push16 s.regs.pc).setPC t.regs.pc
     t = State.tick 5 u ∧
      ∀ c1 c2, s.storageAt (s.regs.sp - 1) = some c1 → s.storageAt (s.regs.sp - 2) = some c2 → c1 ≠ c2 →
        u.memRead (s.regs.sp - 1) = hiByte s.regs.pc ∧ u.memRead (s.regs.sp - 2) = loByte s.regs.pc ∧
        u.irq.flags = s.irq.flags &&& ~~~((1 : Byte) <<< i.bit) ∧ u.irq.enable = s.irq.enable ∧ u.timer = s.timer ∧
        u.ppu = s.ppu ∧ u.apu = s.apu ∧ u.bank = s.bank ∧ u.p1 = s.p1 ∧
        ∀ b, s.storageAt b ≠ some c1 → s.storageAt b ≠ some c2 → u.memRead b = served.memRead b)

/-- R436: the delayed global enable. The pipeline moves once per step: what the instruction of one step requests is not seen by
that step's check and is by the next one's. So no step leaves the global enable set unless it was set before or the instruction of
the step before had requested it. -/
def Obligations.GlobalEnableIsDelayed : Prop :=
  (∀ s : State, s.imeAdvance.irq.ime = (match s.irq.pipe0 with | some b => b | none => s.irq.ime) ∧
    s.imeAdvance.irq.pipe0 = s.irq.pipe1 ∧ s.imeAdvance.irq.pipe1 = none ∧
    (∀ b, s.irq.pipe1 = some b → s.imeAdvance.imeAdvance.irq.ime = b) ∧
    s.imeAdvance = { s with irq := s.imeAdvance.irq } ∧
    s.imeAdvance.irq.enable = s.irq.enable ∧ s.imeAdvance.irq.flags = s.irq.flags) ∧
  (∀ s t : State, Sys2Proof.Machine.step s = .next t → t.ctl.fault = none →
    t.irq.ime = true → s.irq.pipe0.getD s.irq.ime = true)

/-! ### Decoding -/

/-- R96, R97: words written out from the tables, bit by bit, decode to the instructions they stand for. -/
def Obligations.DecodeWrittenWords : Prop :=
  decode [0b01111000] = .ok (.ldAB, []) ∧ decode [0b00110110, 0x99] = .ok (.ldIndHLN 0x99, []) ∧
  decode [0b00100001, 0x00, 0xC0] = .ok (.ldHLNn 0xC000, []) ∧ decode [0b11110101] = .ok (.pushAF, []) ∧
  decode [0b10011100] = .ok (.sbcAH, []) ∧ decode [0b11111110, 0x3C] = .ok (.cpN 0x3C, []) ∧
  decode [0b00011001] = .ok (.addHLDE, []) ∧ decode [0b11001011, 0b00110111] = .ok (.swapA, []) ∧
  decode [0b11001011, 0b01111110] = .ok (.bit7IndHL, []) ∧ decode [0b00111000, 0xFC] = .ok (.jrCE 0xFC, []) ∧
  decode [0b11011100, 0x34, 0x12] = .ok (.callCNn 0x1234, []) ∧ decode [0b11101111] = .ok (.rst28, []) ∧
  decode [0b01110110] = .ok (.halt, []) ∧ decode [0b11011101] = .ok (.unimplDD, [])

/-- R90, R95 to R97: for every well-formed instruction, with every operand at every value, the bytes the encoder writes, whatever
follows them, decode to that instruction and leave what follows. -/
def Obligations.DecodeOfEncode : Prop :=
  ∀ (i : Instr) (rest : List Byte), WellFormed i = true → decode (encode i ++ rest) = .ok (i, rest)

/-! ### Invariants and reset -/

/-- R12, R20 to R23, R303, R306, R310, R362, R431, R436: every step keeps the invariant: the low nibble of F is 0, memories are in
their canonical form, unstored bits stay 0, counters and the ROM bank stay in range, LY stays below 154, the global-enable
pipeline has its shape between steps. That memories have one canonical form is the model's choice (log entry 10). -/
def Obligations.EveryStepKeepsInvariant : Prop :=
  ∀ s t : State, s.Inv → Sys2Proof.Machine.step s = .next t → t.Inv

/-- The invariant holds right after reset, on every platform whose ROM list is in canonical form (the model's choice of form, log
entry 10). -/
def Obligations.ResetMeetsInvariant : Prop :=
  ∀ p : Platform, Memory.wf p.cart.rom = true → (State.resetOn p).Inv

/-- R25, R481: the values right after reset, on every platform: the CPU and control state, every memory-mapped register of R25's table
(P1 with no button pressed), the timers' counters, the bank controller, memory, external RAM, object-attribute memory (read without
blocking), the PPU with its framebuffer, and every channel record; PC and the overlay follow the boot image. -/
def Obligations.ResetValues : Prop :=
  ∀ p : Platform, let s := State.resetOn p
    s.regs.a = 0x01 ∧ s.regs.f = 0xB0 ∧ s.bc = 0x0013 ∧ s.de = 0x00D8 ∧ s.hl = 0x014D ∧ s.regs.sp = 0xFFFE ∧
    s.regs.pc = (if p.bootImage.isSome then 0x0000 else 0x0100) ∧ s.ctl.bootMapped = p.bootImage.isSome ∧
    s.irq.ime = false ∧ s.irq.pipe0 = none ∧ s.irq.pipe1 = none ∧ s.ctl.halted = false ∧ s.ctl.haltBug = false ∧
    s.ctl.fault = none ∧ s.ctl.cycleClock = 0 ∧ s.timer.divCounter = 0 ∧ s.timer.timaCounter = 0 ∧
    s.bank.romBank = 1 ∧ s.bank.ramEnable = false ∧ s.bank.mode = 0 ∧ s.ppu.mode = .oamScan ∧ s.ppu.acc = 0 ∧
    (∀ (y : Fin 144) (x : Fin 160), s.ppu.fb[y][x] = 0) ∧ s.apu.seqCounter = 0 ∧ s.apu.seqStep = 0 ∧
    (∀ k, s.apu.ch k =
      { active := false, volume := 0, envPeriod := 0, envDir := false, envTimer := 0, length := 0, freq := 0, restart := false,
        freqTimer := 0, phase := 0, sweepTimer := 0, lfsr := if k = .ch3 then p.noiseReseed else 0 }) ∧
    (∀ n, Memory.read s.mem n = 0x00 ∧ Memory.read s.extRam n = 0x00) ∧
    (∀ a : Word, 0x8000 ≤ a.toNat → s.storageAt a ≠ none → s.memRead a = 0x00) ∧
    (∀ a : Word, 0xFE00 ≤ a.toNat → a.toNat < 0xFEA0 → s.busRead false a = 0x00) ∧
    (p.input = 0x00 → s.memRead 0xFF00 = 0xCF) ∧
    (∀ c ∈ ([(0xFF04, 0x00), (0xFF05, 0x00), (0xFF06, 0x00), (0xFF07, 0x00), (0xFF0F, 0x00), (0xFF10, 0x80), (0xFF11, 0xBF),
        (0xFF12, 0xF3), (0xFF13, 0x00), (0xFF14, 0xBF), (0xFF16, 0x3F), (0xFF17, 0x00), (0xFF18, 0x00), (0xFF19, 0xBF),
        (0xFF1A, 0x7F), (0xFF1B, 0xFF), (0xFF1C, 0x9F), (0xFF1D, 0x00), (0xFF1E, 0xBF), (0xFF20, 0xFF), (0xFF21, 0x00),
        (0xFF22, 0x00), (0xFF23, 0xBF), (0xFF24, 0x77), (0xFF25, 0xF3), (0xFF26, 0xF0), (0xFF40, 0x91), (0xFF41, 0x06),
        (0xFF42, 0x00), (0xFF43, 0x00), (0xFF44, 0x00), (0xFF45, 0x00), (0xFF46, 0x00), (0xFF47, 0xFC), (0xFF48, 0xFF),
        (0xFF49, 0xFF), (0xFF4A, 0x00), (0xFF4B, 0x00), (0xFFFF, 0x00)] : List (Word × Byte)), s.memRead c.1 = c.2)

/-! ### 8-bit loads -/

/-- R110, R111: `LD d,s` and `LD r,n`: only the destination changes, no flag. -/
def Obligations.LoadRegister : Prop :=
  (∀ (dst src : Reg8) (s : State), (Instr.ldRegReg dst src).encodedAs [0x40 + 8 * dst.code + src.code] ∧
    ∃ t, exec (Instr.ldRegReg dst src) s = .next t ∧ s.onlyRegs t 4 ∧ t.reg dst = s.reg src ∧
    s.regsKept t [dst] ∧ t.regs.f = s.regs.f ∧ t.regs.sp = s.regs.sp ∧ t.regs.pc = s.regs.pc) ∧
  (∀ (r : Reg8) (n : Byte) (s : State), (Instr.ldRegN r n).encodedAs [0x06 + 8 * r.code, n] ∧
    ∃ t, exec (Instr.ldRegN r n) s = .next t ∧ s.onlyRegs t 8 ∧ t.reg r = n ∧
    s.regsKept t [r] ∧ t.regs.f = s.regs.f ∧ t.regs.sp = s.regs.sp ∧ t.regs.pc = s.regs.pc)

/-- R112, R115, R116, R119, R121, R123: the loads from memory: the destination is the byte read at the address, nothing is stored,
no flag changes. -/
def Obligations.LoadFromMemory : Prop :=
  (∀ (r : Reg8) (s : State), (Instr.ldRegIndHL r).encodedAs [0x46 + 8 * r.code] ∧
    ∃ t, exec (Instr.ldRegIndHL r) s = .next t ∧ s.onlyRegs t 8 ∧ t.reg r = s.memRead s.hl ∧
    s.regsKept t [r] ∧ t.regs.f = s.regs.f ∧ t.regs.sp = s.regs.sp ∧ t.regs.pc = s.regs.pc) ∧
  (∀ (m : AddrForm) (s : State), m.load.encodedAs m.loadBytes ∧
    ∃ t, exec m.load s = .next t ∧ s.onlyRegs t m.cost ∧ t.regs.a = s.memRead (m.addr s) ∧
    s.regsKept t [.a] ∧ t.regs.f = s.regs.f ∧ t.regs.sp = s.regs.sp ∧ t.regs.pc = s.regs.pc)

/-- R113, R114, R117, R118, R120, R122, R124: the stores of a register, an immediate or A: one bus write at the address, no register
and no flag changes. -/
def Obligations.StoreToMemory : Prop :=
  (∀ (r : Reg8) (s : State), (Instr.ldIndHLReg r).encodedAs [0x70 + r.code] ∧
    ∃ t, exec (Instr.ldIndHLReg r) s = .next t ∧ s.onlyRegsAndWrite t s.hl (s.reg r) 8 ∧ t.regs = s.regs) ∧
  (∀ (n : Byte) (s : State), (Instr.ldIndHLN n).encodedAs [0x36, n] ∧
    ∃ t, exec (.ldIndHLN n) s = .next t ∧ s.onlyRegsAndWrite t s.hl n 12 ∧ t.regs = s.regs) ∧
  (∀ (m : AddrForm) (s : State), m.store.encodedAs m.storeBytes ∧
    ∃ t, exec m.store s = .next t ∧ s.onlyRegsAndWrite t (m.addr s) s.regs.a m.cost ∧ t.regs = s.regs)

/-- R125 to R128: the loads and stores of A at `(HL+)` and `(HL-)`: the access is at the old HL, then HL moves by one, modulo 2^16; no
flag changes. -/
def Obligations.AccessAndMoveHL : Prop :=
  ∀ s : State,
    (Instr.ldAIndHLInc.encodedAs [0x2A] ∧
      ∃ t, exec .ldAIndHLInc s = .next t ∧ s.onlyRegs t 8 ∧ t.regs.a = s.memRead s.hl ∧ t.hl = s.hl + 1 ∧
      s.regsKept t [.a, .h, .l] ∧ t.regs.f = s.regs.f ∧ t.regs.sp = s.regs.sp ∧ t.regs.pc = s.regs.pc) ∧
    (Instr.ldAIndHLDec.encodedAs [0x3A] ∧
      ∃ t, exec .ldAIndHLDec s = .next t ∧ s.onlyRegs t 8 ∧ t.regs.a = s.memRead s.hl ∧ t.hl = s.hl - 1 ∧
      s.regsKept t [.a, .h, .l] ∧ t.regs.f = s.regs.f ∧ t.regs.sp = s.regs.sp ∧ t.regs.pc = s.regs.pc) ∧
    (Instr.ldIndHLIncA.encodedAs [0x22] ∧
      ∃ t, exec .ldIndHLIncA s = .next t ∧ s.onlyRegsAndWrite t s.hl s.regs.a 8 ∧ t.hl = s.hl + 1 ∧ s.regsKept t [.h, .l] ∧
      t.regs.f = s.regs.f ∧ t.regs.sp = s.regs.sp ∧ t.regs.pc = s.regs.pc) ∧
    (Instr.ldIndHLDecA.encodedAs [0x32] ∧
      ∃ t, exec .ldIndHLDecA s = .next t ∧ s.onlyRegsAndWrite t s.hl s.regs.a 8 ∧ t.hl = s.hl - 1 ∧ s.regsKept t [.h, .l] ∧
      t.regs.f = s.regs.f ∧ t.regs.sp = s.regs.sp ∧ t.regs.pc = s.regs.pc)

/-! ### 16-bit loads and the stack -/

/-- R140, R142: `LD rr,nn` and `LD SP,HL`: the pair (or SP) takes the value; every other pair keeps its own (R11), no flag changes. -/
def Obligations.LoadPairAndStackPointer : Prop :=
  (∀ (p : Pair) (nn : Word) (s : State), (Instr.ldPairNn p nn).encodedAs [0x01 + 16 * p.code, nn.extractLsb' 0 8, nn.extractLsb' 8 8] ∧
    ∃ t, exec (Instr.ldPairNn p nn) s = .next t ∧ s.onlyRegs t 12 ∧ t.pair p = nn ∧
    (∀ q, q ≠ p → t.pair q = s.pair q) ∧ t.regs.a = s.regs.a ∧ t.regs.f = s.regs.f ∧ t.regs.pc = s.regs.pc) ∧
  (∀ s : State, Instr.ldSPHL.encodedAs [0xF9] ∧
    ∃ t, exec .ldSPHL s = .next t ∧ s.onlyRegs t 8 ∧ t.regs.sp = s.hl ∧ s.regsKept t [] ∧ t.regs.f = s.regs.f ∧
    t.regs.pc = s.regs.pc)

/-- R143, R203: `LD HL,SP+e` and `ADD SP,e`: SP plus the signed displacement, modulo 2^16; Z and N are cleared, H and C are the
carries out of bits 3 and 7 of the unsigned addition of SP's low byte and `e`. -/
def Obligations.StackPointerPlusDisplacement : Prop :=
  ∀ (e : Byte) (s : State), let h := decide (s.regs.sp.toNat % 16 + e.toNat % 16 > 0xF)
    let c := decide (s.regs.sp.toNat % 256 + e.toNat > 0xFF)
    let sum := BitVec.ofInt 16 ((s.regs.sp.toNat : Int) + e.toInt)
    ((Instr.ldHLSPE e).encodedAs [0xF8, e] ∧
      ∃ t, exec (.ldHLSPE e) s = .next t ∧ s.onlyRegs t 12 ∧ t.hl = sum ∧ s.regsKept t [.h, .l] ∧ t.flagsAre false false h c ∧
      t.regs.sp = s.regs.sp ∧ t.regs.pc = s.regs.pc) ∧
    ((Instr.addSPE e).encodedAs [0xE8, e] ∧
      ∃ t, exec (.addSPE e) s = .next t ∧ s.onlyRegs t 16 ∧ t.regs.sp = sum ∧ s.regsKept t [] ∧ t.flagsAre false false h c ∧
      t.regs.pc = s.regs.pc)

/-- R141: `LD (nn),SP`: the low byte of SP at `nn`, then the high byte at `nn + 1`, modulo 2^16; no register changes. -/
def Obligations.StoreStackPointer : Prop :=
  ∀ (nn : Word) (s : State), (Instr.ldIndNnSP nn).encodedAs [0x08, nn.extractLsb' 0 8, nn.extractLsb' 8 8] ∧
    ∃ t, exec (.ldIndNnSP nn) s = .next t ∧
    s.onlyRegsAndWrites t nn (s.regs.sp.extractLsb' 0 8) (nn + 1) (s.regs.sp.extractLsb' 8 8) 20 ∧ t.regs = s.regs

/-- R144, R148: `PUSH qq`: the high byte at SP-1, then the low byte at SP-2; SP is two lower; no other register changes. -/
def Obligations.PushPair : Prop :=
  ∀ (q : StackPair) (s : State), (Instr.push q).encodedAs [0xC5 + 16 * q.code] ∧ ∃ t, exec (Instr.push q) s = .next t ∧
    (let v := s.stackPair q
     s.onlyRegsAndWrites t (s.regs.sp - 1) (v.extractLsb' 8 8) (s.regs.sp - 2) (v.extractLsb' 0 8) 16) ∧
    t.regs.sp = s.regs.sp - 2 ∧ s.regsKept t [] ∧ t.regs.f = s.regs.f ∧ t.regs.pc = s.regs.pc

/-- R145, R149: `POP qq`: the low byte is read at SP, the high byte at SP+1, SP is two higher; nothing is stored. Popping AF writes
the four flags and discards bits 3:0 of the low byte; popping another pair leaves A and F. -/
def Obligations.PopPair : Prop :=
  ∀ (q : StackPair) (s : State), (Instr.pop q).encodedAs [0xC1 + 16 * q.code] ∧
    ∃ t, exec (Instr.pop q) s = .next t ∧ s.onlyRegs t 12 ∧ t.regs.sp = s.regs.sp + 2 ∧
    t.regs.pc = s.regs.pc ∧ (let v := mkWord (s.memRead (s.regs.sp + 1)) (s.memRead s.regs.sp)
      t.stackPair q = if q = .af then v &&& 0xFFF0 else v) ∧
    (∀ q', q' ≠ q → t.stackPair q' = s.stackPair q')

/-- R149: a pop right after a push gives the pushed pair back, whatever pair it is popped into, where both bytes landed in plain
storage that is not one byte (for AF, with F as R12 keeps it). SP is back where it was. -/
def Obligations.PopAfterPush : Prop :=
  ∀ (p q : StackPair) (s t u : State) (c1 c2 : Storage), s.storageAt (s.regs.sp - 1) = some c1 →
    s.storageAt (s.regs.sp - 2) = some c2 → c1 ≠ c2 → exec (Instr.push p) s = .next t → exec (Instr.pop q) t = .next u →
    u.regs.sp = s.regs.sp ∧ u.stackPair q = (if q = .af then s.stackPair p &&& 0xFFF0 else s.stackPair p) ∧
    (∀ q', q' ≠ q → u.stackPair q' = s.stackPair q')

/-! ### 8-bit arithmetic and logic -/

/-- R160 to R166: ADD and ADC in every form: the sum modulo 256; Z from the result, N cleared, H and C the carries out of bits 3 and
7, with the old carry as carry-in for ADC. -/
def Obligations.AddAndAddWithCarry : Prop :=
  ∀ (carry : Bool) (m : AluForm) (s : State), let op := if carry then AluOp.adc else .add
    (m.instr op).encodedAs (m.bytes op) ∧ ∃ t, exec (m.instr op) s = .next t ∧
    s.onlyRegs t m.cost ∧ s.regsKept t [.a] ∧ t.regs.sp = s.regs.sp ∧ t.regs.pc = s.regs.pc ∧
    (let v := m.value s
     let c := if carry && s.regs.f.getLsbD 4 then 1 else 0
     let sum := s.regs.a.toNat + v.toNat + c
     t.regs.a.toNat = sum % 256 ∧
     t.flagsAre (decide (sum % 256 = 0)) false (decide (s.regs.a.toNat % 16 + v.toNat % 16 + c > 0xF)) (decide (sum > 0xFF)))

/-- R160, R167 to R172, R182 to R184: SUB, SBC and CP in every form: the difference modulo 256 goes to A (CP leaves A); Z from the
difference, N set, H the borrow from bit 4, C the borrow, with the old carry as borrow-in for SBC. -/
def Obligations.SubtractAndCompare : Prop :=
  ∀ (op : AluOp) (m : AluForm) (s : State), op = .sub ∨ op = .sbc ∨ op = .cp →
    (m.instr op).encodedAs (m.bytes op) ∧ ∃ t, exec (m.instr op) s = .next t ∧
    s.onlyRegs t m.cost ∧ s.regsKept t [.a] ∧ t.regs.sp = s.regs.sp ∧ t.regs.pc = s.regs.pc ∧
    (let v := m.value s
     let c : Int := if op = .sbc ∧ s.regs.f.getLsbD 4 = true then 1 else 0
     let diff : Int := (s.regs.a.toNat : Int) - v.toNat - c
     t.regs.a = (if op = .cp then s.regs.a else BitVec.ofInt 8 diff) ∧
     t.flagsAre (decide (diff % 256 = 0)) true (decide ((s.regs.a.toNat % 16 : Int) - (v.toNat % 16 : Int) - c < 0))
       (decide (diff < 0)))

/-- R173 to R181: AND, XOR and OR in every form: bit by bit into A; Z from the result, H set by AND alone, N and C cleared. -/
def Obligations.BitwiseLogic : Prop :=
  ∀ (op : AluOp) (m : AluForm) (s : State), op = .and ∨ op = .xor ∨ op = .or →
    (m.instr op).encodedAs (m.bytes op) ∧ ∃ t, exec (m.instr op) s = .next t ∧
    s.onlyRegs t m.cost ∧ s.regsKept t [.a] ∧ t.regs.sp = s.regs.sp ∧ t.regs.pc = s.regs.pc ∧
    (∀ k : Fin 8, t.regs.a.getLsbD k =
      (let x := s.regs.a.getLsbD k
       let y := (m.value s).getLsbD k
       if op = .and then x && y else if op = .xor then x ^^ y else x || y)) ∧
    t.flagsAre (decide (t.regs.a = 0)) false (decide (op = .and)) false

/-- R185, R187: INC r and DEC r: modulo 256; Z and H computed, N says which, C unchanged. -/
def Obligations.IncrementDecrementRegister : Prop :=
  ∀ (r : Reg8) (s : State),
    ((Instr.incReg r).encodedAs [0x04 + 8 * r.code] ∧
      ∃ t, exec (Instr.incReg r) s = .next t ∧ s.onlyRegs t 4 ∧ (t.reg r).toNat = ((s.reg r).toNat + 1) % 256 ∧ s.regsKept t [r] ∧
      t.flagsAre (decide ((s.reg r).toNat = 255)) false (decide ((s.reg r).toNat % 16 = 15)) (s.regs.f.getLsbD 4) ∧
      t.regs.sp = s.regs.sp ∧ t.regs.pc = s.regs.pc) ∧
    ((Instr.decReg r).encodedAs [0x05 + 8 * r.code] ∧
      ∃ t, exec (Instr.decReg r) s = .next t ∧ s.onlyRegs t 4 ∧ (t.reg r).toNat = ((s.reg r).toNat + 255) % 256 ∧ s.regsKept t [r] ∧
      t.flagsAre (decide ((s.reg r).toNat = 1)) true (decide ((s.reg r).toNat % 16 = 0)) (s.regs.f.getLsbD 4) ∧
      t.regs.sp = s.regs.sp ∧ t.regs.pc = s.regs.pc)

/-- R186, R188: INC (HL) and DEC (HL): one read and one write at HL, flags as for a register. -/
def Obligations.IncrementDecrementMemory : Prop :=
  ∀ s : State, let old := s.memRead s.hl
    (Instr.incIndHL.encodedAs [0x34] ∧
      ∃ t, exec .incIndHL s = .next t ∧ s.onlyRegsAndWrite t s.hl (old + 1) 12 ∧ s.regsKept t [] ∧
      t.flagsAre (decide (old.toNat = 255)) false (decide (old.toNat % 16 = 15)) (s.regs.f.getLsbD 4) ∧
      t.regs.sp = s.regs.sp ∧ t.regs.pc = s.regs.pc) ∧
    (Instr.decIndHL.encodedAs [0x35] ∧
      ∃ t, exec .decIndHL s = .next t ∧ s.onlyRegsAndWrite t s.hl (old - 1) 12 ∧ s.regsKept t [] ∧
      t.flagsAre (decide (old.toNat = 1)) true (decide (old.toNat % 16 = 0)) (s.regs.f.getLsbD 4) ∧
      t.regs.sp = s.regs.sp ∧ t.regs.pc = s.regs.pc)

/-- R189: DAA. After adding two packed BCD bytes (N = 0) A and C are corrected by the tests on A as it was; after subtracting
(N = 1) by H and C alone, and C stays. Z from the result, N unchanged, H cleared. -/
def Obligations.DecimalAdjust : Prop :=
  ∀ s : State, Instr.daa.encodedAs [0x27] ∧
    ∃ t, exec .daa s = .next t ∧ s.onlyRegs t 4 ∧ s.regsKept t [.a] ∧ t.regs.sp = s.regs.sp ∧ t.regs.pc = s.regs.pc ∧
    (let a := s.regs.a.toNat
     let n := s.regs.f.getLsbD 6
     let h := s.regs.f.getLsbD 5
     let c := s.regs.f.getLsbD 4
     let low := if h = true ∨ (n = false ∧ a % 16 > 9) then 6 else 0
     let high := if c = true ∨ (n = false ∧ a > 0x99) then 0x60 else 0
     t.regs.a.toNat = (if n then (a + 512 - (low + high)) % 256 else (a + low + high) % 256) ∧
     t.flagsAre (decide (t.regs.a = 0)) n false (c || (!n && decide (a > 0x99))))

/-- R189 at work: after ADD of two packed BCD bytes, DAA gives the packed BCD sum, and C says that it is above 99. -/
def Obligations.DecimalSum : Prop :=
  ∀ (x y : Fin 100) (s t u : State), s.regs.a = BitVec.ofNat 8 (x.val / 10 * 16 + x.val % 10) →
    s.regs.b = BitVec.ofNat 8 (y.val / 10 * 16 + y.val % 10) → exec .addAB s = .next t → exec .daa t = .next u →
    u.regs.a.toNat = (x.val + y.val) % 100 / 10 * 16 + (x.val + y.val) % 10 ∧
    u.regs.f.getLsbD 4 = decide (x.val + y.val > 99)

/-- R190 to R192: CPL, SCF and CCF, with the flags each leaves. -/
def Obligations.ComplementAndCarryFlag : Prop :=
  ∀ s : State, let z := s.regs.f.getLsbD 7
    let c := s.regs.f.getLsbD 4
    (Instr.cpl.encodedAs [0x2F] ∧
      ∃ t, exec .cpl s = .next t ∧ s.onlyRegs t 4 ∧ t.regs.a.toNat = 255 - s.regs.a.toNat ∧ s.regsKept t [.a] ∧
      t.flagsAre z true true c ∧ t.regs.sp = s.regs.sp ∧ t.regs.pc = s.regs.pc) ∧
    (Instr.scf.encodedAs [0x37] ∧
      ∃ t, exec .scf s = .next t ∧ s.onlyRegs t 4 ∧ s.regsKept t [] ∧ t.flagsAre z false false true ∧ t.regs.sp = s.regs.sp ∧
      t.regs.pc = s.regs.pc) ∧
    (Instr.ccf.encodedAs [0x3F] ∧
      ∃ t, exec .ccf s = .next t ∧ s.onlyRegs t 4 ∧ s.regsKept t [] ∧ t.flagsAre z false false (!c) ∧ t.regs.sp = s.regs.sp ∧
      t.regs.pc = s.regs.pc)

/-! ### 16-bit arithmetic -/

/-- R200: ADD HL,rr: modulo 2^16; N cleared, H and C the carries out of bits 11 and 15 from HL as it was, Z unchanged. -/
def Obligations.AddToHL : Prop :=
  ∀ (p : Pair) (s : State), (Instr.addHLPair p).encodedAs [0x09 + 16 * p.code] ∧
    ∃ t, exec (Instr.addHLPair p) s = .next t ∧ s.onlyRegs t 8 ∧
    t.hl.toNat = (s.hl.toNat + (s.pair p).toNat) % 65536 ∧ s.regsKept t [.h, .l] ∧
    t.flagsAre (s.regs.f.getLsbD 7) false (decide (s.hl.toNat % 4096 + (s.pair p).toNat % 4096 > 0xFFF))
      (decide (s.hl.toNat + (s.pair p).toNat > 0xFFFF)) ∧
    t.regs.sp = s.regs.sp ∧ t.regs.pc = s.regs.pc

/-- R201, R202: INC rr and DEC rr: modulo 2^16; no flag and no other pair changes. -/
def Obligations.IncrementDecrementPair : Prop :=
  ∀ (p : Pair) (s : State),
    ((Instr.incPair p).encodedAs [0x03 + 16 * p.code] ∧
      ∃ t, exec (Instr.incPair p) s = .next t ∧ s.onlyRegs t 8 ∧ (t.pair p).toNat = ((s.pair p).toNat + 1) % 65536 ∧
      (∀ q, q ≠ p → t.pair q = s.pair q) ∧ t.regs.a = s.regs.a ∧ t.regs.f = s.regs.f ∧ t.regs.pc = s.regs.pc) ∧
    ((Instr.decPair p).encodedAs [0x0B + 16 * p.code] ∧
      ∃ t, exec (Instr.decPair p) s = .next t ∧ s.onlyRegs t 8 ∧ (t.pair p).toNat = ((s.pair p).toNat + 65535) % 65536 ∧
      (∀ q, q ≠ p → t.pair q = s.pair q) ∧ t.regs.a = s.regs.a ∧ t.regs.f = s.regs.f ∧ t.regs.pc = s.regs.pc)

/-! ### Rotates, shifts, bits -/

/-- R210 to R213: RLCA, RRCA, RLA, RRA as movements of the nine bits A and C; Z, N and H are always cleared. -/
def Obligations.AccumulatorRotates : Prop :=
  ∀ (i : Instr) (byte : Byte) (s : State), (i, byte) ∈ [(Instr.rlca, (0x07 : Byte)), (.rrca, 0x0F), (.rla, 0x17), (.rra, 0x1F)] →
    i.encodedAs [byte] ∧ ∃ t, exec i s = .next t ∧ s.onlyRegs t 4 ∧ s.regsKept t [.a] ∧
    t.regs.sp = s.regs.sp ∧ t.regs.pc = s.regs.pc ∧
    (let a := s.regs.a
     let c := s.regs.f.getLsbD 4
     let left := i = .rlca ∨ i = .rla
     let fill := if i = .rlca then a.getLsbD 7 else if i = .rrca then a.getLsbD 0 else c
     (∀ k : Fin 8, t.regs.a.getLsbD k =
       if left then (if k.val = 0 then fill else a.getLsbD (k - 1)) else (if k.val = 7 then fill else a.getLsbD (k + 1))) ∧
     t.flagsAre false false false (if left then a.getLsbD 7 else a.getLsbD 0))

/-- R214 to R231: the prefixed rotates, shifts and SWAP, on a register or on the byte at HL (one read and one write there): the
result's bits, Z from the result, N and H cleared, the carry out; nothing else changes. -/
def Obligations.RotateShiftSwap : Prop :=
  (∀ (op : RotOp) (r : Reg8) (s : State), (Instr.rotReg op r).encodedAs [0xCB, 8 * op.code + r.code] ∧
    ∃ t, exec (Instr.rotReg op r) s = .next t ∧ s.onlyRegs t 8 ∧ s.regsKept t [r] ∧
    t.regs.sp = s.regs.sp ∧ t.regs.pc = s.regs.pc ∧
    (∀ k : Fin 8, (t.reg r).getLsbD k = rotatedBit op (s.reg r) (s.regs.f.getLsbD 4) k) ∧
    t.flagsAre (decide (t.reg r = 0)) false false (rotatedCarry op (s.reg r))) ∧
  (∀ (op : RotOp) (s : State), (Instr.rotIndHL op).encodedAs [0xCB, 8 * op.code + 6] ∧
    ∃ (t : State) (res : Byte), exec (Instr.rotIndHL op) s = .next t ∧
    s.onlyRegsAndWrite t s.hl res 16 ∧ s.regsKept t [] ∧ t.regs.sp = s.regs.sp ∧ t.regs.pc = s.regs.pc ∧
    (∀ k : Fin 8, res.getLsbD k = rotatedBit op (s.memRead s.hl) (s.regs.f.getLsbD 4) k) ∧
    t.flagsAre (decide (res = 0)) false false (rotatedCarry op (s.memRead s.hl)))

/-- R232, R233: BIT b,r and BIT b,(HL): Z is the complement of the bit, N cleared, H set, C unchanged; nothing is written. -/
def Obligations.TestBit : Prop :=
  (∀ (b : Fin 8) (r : Reg8) (s : State), (Instr.bitReg b r).encodedAs [0xCB, 0x40 + 8 * BitVec.ofNat 8 b + r.code] ∧
    ∃ t, exec (Instr.bitReg b r) s = .next t ∧ s.onlyRegs t 8 ∧ s.regsKept t [] ∧
    t.regs.sp = s.regs.sp ∧ t.regs.pc = s.regs.pc ∧ t.flagsAre (!(s.reg r).getLsbD b) false true (s.regs.f.getLsbD 4)) ∧
  (∀ (b : Fin 8) (s : State), (Instr.bitIndHL b).encodedAs [0xCB, 0x46 + 8 * BitVec.ofNat 8 b] ∧
    ∃ t, exec (Instr.bitIndHL b) s = .next t ∧ s.onlyRegs t 12 ∧ s.regsKept t [] ∧
    t.regs.sp = s.regs.sp ∧ t.regs.pc = s.regs.pc ∧ t.flagsAre (!(s.memRead s.hl).getLsbD b) false true (s.regs.f.getLsbD 4))

/-- R234 to R237: RES and SET: only bit `b` of the register, or of the byte at HL, changes; the byte at HL is read once and written
once, even when the bit had that value already; no flag changes. -/
def Obligations.ClearAndSetBit : Prop :=
  (∀ (b : Fin 8) (r : Reg8) (s : State),
    ((Instr.resReg b r).encodedAs [0xCB, 0x80 + 8 * BitVec.ofNat 8 b + r.code] ∧
      ∃ t, exec (Instr.resReg b r) s = .next t ∧ s.onlyRegs t 8 ∧ s.regsKept t [r] ∧ t.regs.f = s.regs.f ∧
      t.regs.sp = s.regs.sp ∧ t.regs.pc = s.regs.pc ∧
      ∀ k : Fin 8, (t.reg r).getLsbD k = if k = b then false else (s.reg r).getLsbD k) ∧
    ((Instr.setReg b r).encodedAs [0xCB, 0xC0 + 8 * BitVec.ofNat 8 b + r.code] ∧
      ∃ t, exec (Instr.setReg b r) s = .next t ∧ s.onlyRegs t 8 ∧ s.regsKept t [r] ∧ t.regs.f = s.regs.f ∧
      t.regs.sp = s.regs.sp ∧ t.regs.pc = s.regs.pc ∧
      ∀ k : Fin 8, (t.reg r).getLsbD k = if k = b then true else (s.reg r).getLsbD k)) ∧
  (∀ (b : Fin 8) (s : State),
    ((Instr.resIndHL b).encodedAs [0xCB, 0x86 + 8 * BitVec.ofNat 8 b] ∧
      ∃ (t : State) (res : Byte), exec (Instr.resIndHL b) s = .next t ∧ s.onlyRegsAndWrite t s.hl res 16 ∧ t.regs = s.regs ∧
      ∀ k : Fin 8, res.getLsbD k = if k = b then false else (s.memRead s.hl).getLsbD k) ∧
    ((Instr.setIndHL b).encodedAs [0xCB, 0xC6 + 8 * BitVec.ofNat 8 b] ∧
      ∃ (t : State) (res : Byte), exec (Instr.setIndHL b) s = .next t ∧ s.onlyRegsAndWrite t s.hl res 16 ∧ t.regs = s.regs ∧
      ∀ k : Fin 8, res.getLsbD k = if k = b then true else (s.memRead s.hl).getLsbD k))

/-- R214, R275: the prefix by itself, PC at its second byte: it fetches that byte and does what the prefixed table selects by it,
at the state with PC past it. That the prefix by itself is an instruction is the model's reading of its table row (log entry 6). -/
def Obligations.PrefixSelectsSecondTable : Prop :=
  ∀ s : State, ∃ (i : Instr) (t : State), prefixedInstr (s.memRead s.regs.pc) = some i ∧ exec .prefixCB s = .next t ∧
    exec i (s.setPC (s.regs.pc + 1)) = .next t

/-! ### Control transfer -/

/-- R251 to R255: the jumps: PC is the target when the jump is taken, else unchanged; no other register, no flag, no byte changes. -/
def Obligations.Jumps : Prop :=
  ∀ (nn : Word) (e : Byte) (cc : Cond) (s : State), let rel := BitVec.ofInt 16 ((s.regs.pc.toNat : Int) + e.toInt)
    ((Instr.jpNn nn).encodedAs [0xC3, nn.extractLsb' 0 8, nn.extractLsb' 8 8] ∧
      ∃ t, exec (.jpNn nn) s = .next t ∧ s.onlyRegs t 16 ∧ t.regs = { s.regs with pc := nn }) ∧
    ((Instr.jpCond cc nn).encodedAs [0xC2 + 8 * cc.code, nn.extractLsb' 0 8, nn.extractLsb' 8 8] ∧
      ∃ t, exec (Instr.jpCond cc nn) s = .next t ∧ s.onlyRegs t (if s.holds cc then 16 else 12) ∧
      t.regs = { s.regs with pc := if s.holds cc then nn else s.regs.pc }) ∧
    (Instr.jpHL.encodedAs [0xE9] ∧ ∃ t, exec .jpHL s = .next t ∧ s.onlyRegs t 4 ∧ t.regs = { s.regs with pc := s.hl }) ∧
    ((Instr.jrE e).encodedAs [0x18, e] ∧ ∃ t, exec (.jrE e) s = .next t ∧ s.onlyRegs t 12 ∧ t.regs = { s.regs with pc := rel }) ∧
    ((Instr.jrCond cc e).encodedAs [0x20 + 8 * cc.code, e] ∧
      ∃ t, exec (Instr.jrCond cc e) s = .next t ∧ s.onlyRegs t (if s.holds cc then 12 else 8) ∧
      t.regs = { s.regs with pc := if s.holds cc then rel else s.regs.pc })

/-- R256, R257, R262: CALL, taken CALL cc and RST push PC (high byte at SP-1, low byte at SP-2) and jump; a CALL cc not taken only
costs 12 cycles. -/
def Obligations.Calls : Prop :=
  ∀ (nn : Word) (cc : Cond) (k : Fin 8) (s : State),
    let called (t : State) (target : Word) (cost : Nat) : Prop :=
      s.onlyRegsAndWrites t (s.regs.sp - 1) (s.regs.pc.extractLsb' 8 8) (s.regs.sp - 2) (s.regs.pc.extractLsb' 0 8) cost ∧
        t.regs = { s.regs with sp := s.regs.sp - 2, pc := target }
    ((Instr.callNn nn).encodedAs [0xCD, nn.extractLsb' 0 8, nn.extractLsb' 8 8] ∧
      ∃ t, exec (.callNn nn) s = .next t ∧ called t nn 24) ∧
    ((Instr.rst k).encodedAs [0xC7 + 8 * BitVec.ofNat 8 k] ∧
      ∃ t, exec (Instr.rst k) s = .next t ∧ called t (BitVec.ofNat 16 (8 * k.val)) 16) ∧
    ((Instr.callCond cc nn).encodedAs [0xC4 + 8 * cc.code, nn.extractLsb' 0 8, nn.extractLsb' 8 8] ∧
      ∃ t, exec (Instr.callCond cc nn) s = .next t ∧
      if s.holds cc then called t nn 24 else s.onlyRegs t 12 ∧ t.regs = s.regs)

/-- R258 to R260: RET, taken RET cc and RETI pop PC (low byte at SP); RETI also requests the global enable through the delayed
path, leaving it as it is; a RET cc not taken only costs 8 cycles. -/
def Obligations.Returns : Prop :=
  ∀ (cc : Cond) (s : State), let target := mkWord (s.memRead (s.regs.sp + 1)) (s.memRead s.regs.sp)
    let popped := { s.regs with sp := s.regs.sp + 2, pc := target }
    (Instr.ret.encodedAs [0xC9] ∧ ∃ t, exec .ret s = .next t ∧ s.onlyRegs t 16 ∧ t.regs = popped) ∧
    ((Instr.retCond cc).encodedAs [0xC0 + 8 * cc.code] ∧
      ∃ t, exec (Instr.retCond cc) s = .next t ∧ s.onlyRegs t (if s.holds cc then 20 else 8) ∧
      t.regs = if s.holds cc then popped else s.regs) ∧
    (Instr.reti.encodedAs [0xD9] ∧ ∃ t, exec .reti s = .next t ∧ t.regs = popped ∧
      t = { s with regs := popped, irq := { s.irq with pipe1 := some true }, ctl := { s.ctl with cost := 16 } })

/-! ### System instructions -/

/-- R270, R273, R274: NOP changes nothing; EI and DI request the global enable set or cleared and leave it as it is. -/
def Obligations.NopAndEnableRequests : Prop :=
  ∀ s : State, let costs4 : Control := { s.ctl with cost := 4 }
    Instr.nop.encodedAs [0x00] ∧ Instr.ei.encodedAs [0xFB] ∧ Instr.di.encodedAs [0xF3] ∧
    exec .nop s = .next { s with ctl := costs4 } ∧
    exec .ei s = .next { s with irq := { s.irq with pipe1 := some true }, ctl := costs4 } ∧
    exec .di s = .next { s with irq := { s.irq with pipe1 := some false }, ctl := costs4 }

/-- R271: HALT with the global enable in effect halts the CPU; without it, it does not halt and the next opcode fetch will not
advance PC. A request still in the pipeline does not count. -/
def Obligations.HaltOrQuirk : Prop :=
  ∀ s : State, Instr.halt.encodedAs [0x76] ∧
    (s.irq.ime = true → exec .halt s = .next { s with ctl := { s.ctl with halted := true, cost := 4 } }) ∧
    (s.irq.ime = false → exec .halt s = .next { s with ctl := { s.ctl with haltBug := true, cost := 4 } })

/-- R272, R276, R440: STOP and the eleven opcodes that select no instruction set the sticky fault with the opcode and its address
and put PC back at it; nothing else changes. (That the fault's entry is a next state, and the stop is the next step's, is the
model's reading, log entry 3.) -/
def Obligations.UnimplementedOpcodes : Prop :=
  ∀ (s : State) (n : Byte),
    let raised (op : Byte) : Host.Outcome State Fault Refusal :=
      .next { s with
        regs := { s.regs with pc := s.ctl.instrAddr }
        ctl := { s.ctl with fault := some (.unimplementedOpcode op s.ctl.instrAddr) } }
    exec (.stop n) s = raised 0x10 ∧ exec .unimplD3 s = raised 0xD3 ∧ exec .unimplDB s = raised 0xDB ∧
    exec .unimplDD s = raised 0xDD ∧ exec .unimplE3 s = raised 0xE3 ∧ exec .unimplE4 s = raised 0xE4 ∧
    exec .unimplEB s = raised 0xEB ∧ exec .unimplEC s = raised 0xEC ∧ exec .unimplED s = raised 0xED ∧
    exec .unimplF4 s = raised 0xF4 ∧ exec .unimplFC s = raised 0xFC ∧ exec .unimplFD s = raised 0xFD

/-! ### The bus -/

/-- R58: the echo mirrors work RAM 0xC000-0xDDFF both ways: an echo address reads as the address 0x2000 below, and a write through
either is seen through both. -/
def Obligations.EchoMirrorsWorkRam : Prop :=
  ∀ (s : State) (a : Word) (v : Byte), 0xE000 ≤ a.toNat → a.toNat < 0xFE00 →
    s.memRead a = s.memRead (a - 0x2000) ∧ s.memWrite a v = s.memWrite (a - 0x2000) v ∧
    (s.memWrite a v).memRead a = v ∧ (s.memWrite a v).memRead (a - 0x2000) = v

/-- R59, R60, R61: a blocked or disabled region reads 0xFF and a write to it changes nothing at all. -/
def Obligations.BlockedRegions : Prop :=
  ∀ (s : State) (a : Word) (v : Byte),
    (0x8000 ≤ a.toNat ∧ a.toNat < 0xA000 ∧ s.ppu.lcdc.getLsbD 7 = true ∧ s.ppu.mode = .drawing) ∨
    (0xFE00 ≤ a.toNat ∧ a.toNat < 0xFEA0 ∧ s.ppu.lcdc.getLsbD 7 = true ∧ (s.ppu.mode = .oamScan ∨ s.ppu.mode = .drawing)) ∨
    (0xA000 ≤ a.toNat ∧ a.toNat < 0xC000 ∧
      (s.plat.cart.kind = .noController ∨ s.bank.ramEnable = false ∨ s.plat.cart.ramSize = 0)) →
    s.memRead a = 0xFF ∧ s.memWrite a v = s

/-- R57, R70 to R73: a write below 0x8000 is a command to the bank controller and changes nothing else. Without a controller it is
ignored. With one: 0x0000-0x1FFF enables RAM exactly by a low nibble of 0xA; 0x2000-0x3FFF selects the ROM bank of the low five
bits, 0 meaning 1, an out-of-range bank reduced modulo the bank count, and never 0; 0x4000-0x7FFF is ignored. With a declared bank
count of 0 the remainder is the model's choice (log entry 14). -/
def Obligations.BankControllerCommands : Prop :=
  ∀ (s : State) (a : Word) (v : Byte), a.toNat < 0x8000 →
    s.memWrite a v = { s with bank := (s.memWrite a v).bank } ∧
    (let k := (s.memWrite a v).bank
     let wanted := if v.toNat % 32 = 0 then 1 else v.toNat % 32
     (s.plat.cart.kind = .noController → k = s.bank) ∧
     (s.plat.cart.kind = .banked → a.toNat < 0x2000 → k = { s.bank with ramEnable := decide (v.toNat % 16 = 10) }) ∧
     (s.plat.cart.kind = .banked → 0x2000 ≤ a.toNat → a.toNat < 0x4000 →
       k.romBank = (if wanted < s.plat.cart.bankCount then wanted
         else if wanted % s.plat.cart.bankCount = 0 then 1 else wanted % s.plat.cart.bankCount) ∧
       k.ramEnable = s.bank.ramEnable ∧ k.mode = s.bank.mode) ∧
     (s.plat.cart.kind = .banked → 0x4000 ≤ a.toNat → k = s.bank))

/-- R64: a write to the DMA register stores the page and copies 160 bytes to object-attribute memory, each as a read without
blocking gives it once the page is stored, whatever the PPU's mode; no other byte and no other state changes. -/
def Obligations.DmaCopy : Prop :=
  ∀ (s : State) (v : Byte), let paged := { s with ppu := { s.ppu with dma := v } }
    let t := s.memWrite 0xFF46 v
    (∀ i, i < 160 → Memory.read t.mem (0xFE00 + i) = paged.busRead false (BitVec.ofNat 16 (v.toNat * 0x100 + i))) ∧
    (∀ n, (n < 0xFE00 ∨ 0xFEA0 ≤ n) → Memory.read t.mem n = Memory.read s.mem n) ∧
    t = { paged with mem := t.mem }

/-- R24, R65, R66, R304, R306, R364 to R366, R374, R376, R461: what every register of R24 reads as after a write of `v`: the plain
registers and wave memory `v`; DIV and LY 0 whatever `v`; STAT bits 7:3 of `v` over the compare flag and the mode; P1 bits 7:4 of `v`
over the input lines, low for pressed buttons of a selected group; a sound register, with the sound power on, `v`; NR52 bits 7:4 of `v`
over the channel-active bits, all 0 when the write switches the power off. A write to a sound register with the power on changes in
the channel records exactly the length a length register loads, the frequency bits a frequency register loads, and what the trigger
sets; every other byte reads as before, but NR52 at a trigger. -/
def Obligations.RegisterReadBack : Prop :=
  ∀ (s : State) (v : Byte),
    (∀ a : Word, a ∈ [0xFF05, 0xFF06, 0xFF07, 0xFF0F, 0xFF40, 0xFF42, 0xFF43, 0xFF45, 0xFF46, 0xFF47, 0xFF48, 0xFF49, 0xFF4A,
      0xFF4B, 0xFFFF] → (s.memWrite a v).memRead a = v) ∧
    (s.memWrite 0xFF04 v).memRead 0xFF04 = 0 ∧ (s.memWrite 0xFF44 v).memRead 0xFF44 = 0 ∧
    (let r := (s.memWrite 0xFF41 v).memRead 0xFF41
     (∀ k, 3 ≤ k → r.getLsbD k = v.getLsbD k) ∧ r.getLsbD 2 = decide (s.ppu.ly = s.ppu.lyc) ∧
     r.toNat % 4 = (match s.ppu.mode with | .hBlank => 0 | .vBlank => 1 | .oamScan => 2 | .drawing => 3)) ∧
    (let r := (s.memWrite 0xFF00 v).memRead 0xFF00
     (∀ k, 4 ≤ k → r.getLsbD k = v.getLsbD k) ∧
     ∀ k, k < 4 → r.getLsbD k =
       !((!v.getLsbD 4 && s.plat.input.getLsbD k) || (!v.getLsbD 5 && s.plat.input.getLsbD (k + 4)))) ∧
    (∀ a : Word, 0xFF30 ≤ a.toNat → a.toNat ≤ 0xFF3F → (s.memWrite a v).memRead a = v) ∧
    (let t := s.memWrite 0xFF26 v
     let r := t.memRead 0xFF26
     t = { s with apu := t.apu } ∧ (∀ b, b ≠ 0xFF26 → t.memRead b = s.memRead b) ∧
     (∀ k, 4 ≤ k → r.getLsbD k = v.getLsbD k) ∧
     ∀ k : Chan, r.getLsbD k.index = ((s.apu.ch k).active && (v.getLsbD 7 || !s.apu.nr52.getLsbD 7))) ∧
    (s.apu.nr52.getLsbD 7 = true → ∀ a : Word, a ∈ [0xFF10, 0xFF11, 0xFF12, 0xFF13, 0xFF14, 0xFF16, 0xFF17, 0xFF18, 0xFF19,
        0xFF1A, 0xFF1B, 0xFF1C, 0xFF1D, 0xFF1E, 0xFF20, 0xFF21, 0xFF22, 0xFF23, 0xFF24, 0xFF25] →
      let t := s.memWrite a v
      t = { s with apu := t.apu } ∧ t.memRead a = v ∧ t.apu.nr52 = s.apu.nr52 ∧ t.apu.seqCounter = s.apu.seqCounter ∧
      t.apu.seqStep = s.apu.seqStep ∧
      (∀ b, b ≠ a → b ≠ 0xFF26 ∨ v.getLsbD 7 = false ∨ a ∉ [0xFF14, 0xFF19, 0xFF1E, 0xFF23] → t.memRead b = s.memRead b) ∧
      ∀ k : Chan, let c := s.apu.ch k
        let nr (i : Nat) : Word := BitVec.ofNat 16 (0xFF10 + 5 * k.index + i)
        let triggered := decide (a = nr 4) && v.getLsbD 7
        t.apu.ch k = { c with
          length := if a = nr 1 then (if k = .ch2 then 256 - v.toNat else 64 - v.toNat % 64) else c.length
          freq := if k = .ch3 then c.freq
            else if a = nr 3 then BitVec.ofNat 11 (c.freq.toNat / 256 * 256 + v.toNat)
            else if a = nr 4 then BitVec.ofNat 11 (v.toNat % 8 * 256 + c.freq.toNat % 256) else c.freq
          volume := if triggered ∧ k ≠ .ch2 then BitVec.ofNat 4 ((s.memRead (nr 2)).toNat / 16) else c.volume
          active := c.active || triggered
          restart := c.restart || triggered })

/-! ### Timers -/

/-- R460 to R463: the timers over `n` cycles. DIV counts one per 256 cycles, the rest carried on. While TAC bit 2 is 0 TIMA and its
counter hold and no flag is raised. Enabled, with TIMA at 0xFF and exactly one increment due, TIMA is TMA and IF bit 2 is raised;
with exactly one increment due and TIMA below 0xFF it is one higher and nothing is raised; with none due it holds. -/
def Obligations.TimerCounting : Prop :=
  ∀ (n : Nat) (t : Timer), let r := timerTick n t
    let p := (match t.tac.toNat % 4 with | 0 => 1024 | 1 => 16 | 2 => 64 | _ => 256)
    let due := (t.timaCounter + n) / p
    (256 * r.1.div.toNat + r.1.divCounter) % 65536 = (256 * t.div.toNat + t.divCounter + n) % 65536 ∧ r.1.divCounter < 256 ∧
    r.1.tma = t.tma ∧ r.1.tac = t.tac ∧
    (t.tac.getLsbD 2 = false → r.1.tima = t.tima ∧ r.1.timaCounter = t.timaCounter ∧ r.2 = 0) ∧
    (t.tac.getLsbD 2 = true → r.1.timaCounter = (t.timaCounter + n) % p ∧
      (due = 0 → r.1.tima = t.tima ∧ r.2 = 0) ∧
      (due = 1 → t.tima = 0xFF → r.1.tima = t.tma ∧ r.2 = 0x04) ∧
      (due = 1 → t.tima ≠ 0xFF → r.1.tima = t.tima + 1 ∧ r.2 = 0))

/-- R460: the counters "carry the remainder from one instruction to the next": ticking `m` cycles and then `n` is ticking `m + n`,
in the timers' state and in the flag raised. -/
def Obligations.TimerTicksAdd : Prop :=
  ∀ (m n : Nat) (t : Timer), (timerTick n (timerTick m t).1).1 = (timerTick (m + n) t).1 ∧
    (timerTick m t).2 ||| (timerTick n (timerTick m t).1).2 = (timerTick (m + n) t).2

/-! ### The PPU -/

/-- R312: a full frame is exactly 70,224 cycles: from any running PPU state in its ranges (no program having zeroed LY inside
VBlank), that many cycles later the mode, the line and the cycles within it are the same. -/
def Obligations.FrameIs70224Cycles : Prop :=
  ∀ (m : Memory) (p : Ppu), p.inRange → p.displayOn = true → (p.mode = .vBlank → 144 ≤ p.ly.toNat) →
    (ppuTick m 70224 p).1.mode = p.mode ∧ (ppuTick m 70224 p).1.ly = p.ly ∧ (ppuTick m 70224 p).1.acc = p.acc

/-- R310, R316, R318, R320: one transition of the sequencer is due exactly when the mode's budget is used up; it gives the next mode
and line, carries the excess, and raises exactly IF bit 0 at the entry to line 144 and bit 1 for the status events whose enable
bits are set; only the entry to HBlank writes the framebuffer, and what it writes is the rendering of the line LY. -/
def Obligations.SequencerTransitions : Prop :=
  ∀ (m : Memory) (p : Ppu),
    let budget := (match p.mode with | .oamScan => 80 | .drawing => 172 | .hBlank => 204 | .vBlank => 456)
    let stat (b : Bool) : Byte := if b then 0x02 else 0x00
    let hit (l : Byte) : Bool := decide (l = p.lyc) && p.stat.getLsbD 6
    (p.acc < budget → ppuTransition m (p, 0) = none) ∧
    (budget ≤ p.acc → ∃ (q : Ppu) (f : Byte), ppuTransition m (p, 0) = some (q, f) ∧ q.acc = p.acc - budget ∧
      q = { p with mode := q.mode, ly := q.ly, acc := q.acc, fb := q.fb } ∧ (p.mode ≠ .drawing → q.fb = p.fb) ∧
      (p.mode = .oamScan → q.mode = .drawing ∧ q.ly = p.ly ∧ f = 0) ∧
      (p.mode = .drawing → q.mode = .hBlank ∧ q.ly = p.ly ∧ f = stat (p.stat.getLsbD 3) ∧
        q.fb = (renderLine m p p.ly.toNat).fb) ∧
      (p.mode = .hBlank → p.ly = 143 → q.mode = .vBlank ∧ q.ly = 144 ∧ f = 0x01 ||| stat (hit 144 || p.stat.getLsbD 4)) ∧
      (p.mode = .hBlank → p.ly ≠ 143 → q.mode = .oamScan ∧ q.ly = p.ly + 1 ∧ f = stat (hit (p.ly + 1) || p.stat.getLsbD 5)) ∧
      (p.mode = .vBlank → p.ly = 153 → q.mode = .oamScan ∧ q.ly = 0 ∧ f = stat (hit 0 || p.stat.getLsbD 5)) ∧
      (p.mode = .vBlank → p.ly ≠ 153 → q.mode = .vBlank ∧ q.ly = p.ly + 1 ∧ f = stat (hit (p.ly + 1))))

/-- R303: switching the display off parks the PPU in HBlank of line 0, switching it on starts OAMScan of line 0, writing LCDC
without changing bit 7 moves nothing; no transition raises a flag, and while the display is off no number of cycles changes the
PPU. -/
def Obligations.DisplaySwitch : Prop :=
  ∀ (s : State) (v : Byte) (m : Memory) (n : Nat), let t := s.memWrite 0xFF40 v
    t = { s with ppu := t.ppu } ∧
    (s.ppu.lcdc.getLsbD 7 = true → v.getLsbD 7 = false →
      t.ppu = { s.ppu with lcdc := v, ly := 0, mode := .hBlank, acc := 0 } ∧ ppuTick m n t.ppu = (t.ppu, 0)) ∧
    (s.ppu.lcdc.getLsbD 7 = false → v.getLsbD 7 = true → t.ppu = { s.ppu with lcdc := v, ly := 0, mode := .oamScan, acc := 0 }) ∧
    (s.ppu.lcdc.getLsbD 7 = v.getLsbD 7 → t.ppu = { s.ppu with lcdc := v })

/-- R330, R332, R336: rendering a line writes that row of the framebuffer and nothing else; with background, window and sprites all
off it writes shade 0; with sprites off every pixel is the background palette's entry for its index. -/
def Obligations.RenderOneLine : Prop :=
  ∀ (m : Memory) (p : Ppu) (ly : Fin 144), let q := renderLine m p ly
    q = { p with fb := q.fb } ∧ (∀ y : Fin 144, y ≠ ly → q.fb[y] = p.fb[y]) ∧
    (p.lcdc.getLsbD 1 = false → p.lcdc.getLsbD 0 = false → ∀ x : Fin 160, q.fb[ly][x] = 0) ∧
    (p.lcdc.getLsbD 1 = false → p.lcdc.getLsbD 0 = true → ∀ x : Fin 160,
      q.fb[ly][x] = p.bgp.extractLsb' (2 * (bgWinIndex m p ly x).toNat) 2)

/-- R346: a sprite's pixel draws exactly when its index is not 0, no sprite of a strictly lower Y has claimed the column, and it is
not behind a non-zero background index; it then shows its palette's entry and claims the column with its Y; otherwise nothing
changes. -/
def Obligations.SpritePixelPriority : Prop :=
  ∀ (p : Ppu) (i : BitVec 2) (y attr : Byte) (px : Pixel),
    let drawn := i ≠ 0 ∧ (∀ c, px.claim = some c → y.toNat ≤ c.toNat) ∧ (attr.getLsbD 7 = false ∨ px.bg = 0)
    (drawn → spritePixel p i y attr px =
      { bg := px.bg, shade := (if attr.getLsbD 4 then p.obp1 else p.obp0).extractLsb' (2 * i.toNat) 2, claim := some y }) ∧
    (¬drawn → spritePixel p i y attr px = px)

/-! ### The sound unit -/

/-- R24, R63, R364, R366, R374: while the sound power is off a write to a sound register in 0xFF10-0xFF25 changes nothing at all;
0xFF15 and 0xFF1F, between them, are plain storage whatever the power (R24 and R63 against R364, the model's reading, log entry 20); a
trigger with the power on copies the envelope register's volume nibble (not on the wave channel), sets the channel-active bit that
NR52 reads and leaves a restart pending; switching the power off makes every channel inactive. -/
def Obligations.SoundPowerAndTrigger : Prop :=
  ∀ (s : State) (v : Byte),
    (∀ a : Word, 0xFF10 ≤ a.toNat → a.toNat ≤ 0xFF25 → a ≠ 0xFF15 → a ≠ 0xFF1F → s.apu.nr52.getLsbD 7 = false →
      s.memWrite a v = s) ∧
    (∀ a : Word, a = 0xFF15 ∨ a = 0xFF1F → (let t := s.memWrite a v
      t = { s with mem := t.mem } ∧ t.memRead a = v ∧ ∀ b, b ≠ a → t.memRead b = s.memRead b)) ∧
    (∀ k : Chan, s.apu.nr52.getLsbD 7 = true → v.getLsbD 7 = true →
      let t := s.memWrite (BitVec.ofNat 16 (0xFF14 + 5 * k.index)) v
      let c := t.apu.ch k
      c.active = true ∧ c.restart = true ∧
      c.volume.toNat = (if k = .ch2 then (s.apu.ch k).volume.toNat
        else (s.memRead (BitVec.ofNat 16 (0xFF12 + 5 * k.index))).toNat / 16) ∧
      (t.memRead 0xFF26).getLsbD k.index = true ∧ (∀ j, j ≠ k → t.apu.ch j = s.apu.ch j)) ∧
    (s.apu.nr52.getLsbD 7 = true → v.getLsbD 7 = false →
      (∀ k, ((s.memWrite 0xFF26 v).apu.ch k).active = false ∧ ((s.memWrite 0xFF26 v).apu.ch k).restart = false) ∧
      (s.memWrite 0xFF26 v).memRead 0xFF26 = v &&& 0xF0)

/-- R370, R376, R378, R380: the three clocks of a channel. Length: counts down when NRk4 bit 6 is set and silences the channel exactly
on reaching 0. Envelope, of channels 0, 1 and 3: on expiry of a non-zero period the volume moves by one in its direction, clamped to
0..15. Sweep, of channel 0: on expiry the frequency becomes itself plus or minus itself shifted, and a sum above 2047 disables the
channel instead. A sequencer step clocks the lengths of all channels on even steps, the sweep on steps 2 and 6, after the lengths, and
the envelopes of channels 0, 1 and 3 on step 7. -/
def Obligations.LengthEnvelopeSweepClocks : Prop :=
  ∀ (a : Apu) (k : Chan), let c := a.ch k
    ((a.nr k 4).getLsbD 6 = true → 0 < c.length → ((a.lengthClock k).ch k).length = c.length - 1 ∧
      ((a.lengthClock k).ch k).active = (c.active && decide (c.length ≠ 1))) ∧
    ((a.nr k 4).getLsbD 6 = false ∨ c.length = 0 → a.lengthClock k = a) ∧
    (k ≠ .ch2 → c.active = true → c.envPeriod ≠ 0 → c.envPeriod.toNat ≤ c.envTimer + 1 →
      ((a.envelopeClock k).ch k).volume.toNat =
        (if c.envDir then min 15 (c.volume.toNat + 1) else c.volume.toNat - 1) ∧ ((a.envelopeClock k).ch k).envTimer = 0) ∧
    (let period := a.nr10.toNat / 16 % 8
     let d := a.ch0.freq.toNat >>> (a.nr10.toNat % 8)
     a.ch0.active = true → period ≠ 0 → period ≤ a.ch0.sweepTimer + 1 →
       (a.nr10.getLsbD 3 = true → a.sweepClock.ch0.freq.toNat = a.ch0.freq.toNat - d ∧ a.sweepClock.ch0.active = true) ∧
       (a.nr10.getLsbD 3 = false → a.ch0.freq.toNat + d ≤ 2047 →
         a.sweepClock.ch0.freq.toNat = a.ch0.freq.toNat + d ∧ a.sweepClock.ch0.active = true) ∧
       (a.nr10.getLsbD 3 = false → 2047 < a.ch0.freq.toNat + d → a.sweepClock.ch0.active = false ∧
         a.sweepClock.ch0.freq = a.ch0.freq)) ∧
    (let t := a.seqStepClock
     t.seqStep = (a.seqStep + 1) % 8 ∧
     (t.ch k).length = (if a.seqStep % 2 = 0 then ((a.lengthClock k).ch k).length else c.length) ∧
     (if a.seqStep = 7 ∧ k ≠ .ch2 then (t.ch k).volume = ((a.envelopeClock k).ch k).volume ∧
         (t.ch k).envTimer = ((a.envelopeClock k).ch k).envTimer
       else (t.ch k).volume = c.volume ∧ (t.ch k).envTimer = c.envTimer) ∧
     (if (a.seqStep = 2 ∨ a.seqStep = 6) ∧ k = .ch0 then (t.ch k).freq = (a.lengthClock .ch0).sweepClock.ch0.freq ∧
         (t.ch k).active = (a.lengthClock .ch0).sweepClock.ch0.active ∧
         (t.ch k).sweepTimer = (a.lengthClock .ch0).sweepClock.ch0.sweepTimer
       else (t.ch k).freq = c.freq ∧ (t.ch k).sweepTimer = c.sweepTimer ∧
         (t.ch k).active = (if a.seqStep % 2 = 0 then ((a.lengthClock k).ch k).active else c.active)))

/-- R392: each side of the mix lies in -480..480, and both are 0 while the sound power is off. -/
def Obligations.MixBounds : Prop :=
  ∀ (a : Apu) (m : Memory), -480 ≤ (a.mix m).1 ∧ (a.mix m).1 ≤ 480 ∧ -480 ≤ (a.mix m).2 ∧ (a.mix m).2 ≤ 480 ∧
    (a.nr52.getLsbD 7 = false → a.mix m = (0, 0))

/-! ### The host -/

/-- R454, R470, R480: changing the input raises IF bit 4 exactly when some button goes from released to pressed and changes nothing
else but the mask; a reset, and a cartridge load, put every piece of state at its reset value and keep the parameters (but the
cartridge loaded). -/
def Obligations.HostInputAndReset : Prop :=
  ∀ (s : State) (mask : Byte) (cart : Cart),
    s.setInput mask = { s with
      plat := { s.plat with input := mask }
      irq := { s.irq with flags :=
        if (∃ k : Fin 8, s.plat.input.getLsbD k = false ∧ mask.getLsbD k = true) then s.irq.flags ||| 0x10 else s.irq.flags } } ∧
    s.hardReset = State.resetOn s.plat ∧ (s.loadCartridge cart) = State.resetOn { s.plat with cart := cart }
end

