-- ==== Sys2Proof/Laws/Memory.lean ====
section
/-! SUPPORT. Sparse memories: a read after a write, what a write keeps, and that the canonical form makes equal contents equal
data. -/

namespace Sys2Proof.Machine.Laws

@[simp] theorem read_nil (a : Nat) : Memory.read [] a = Config.unlistedByte := rfl

theorem read_cons (k : Nat) (v : Byte) (m : Memory) (a : Nat) :
    Memory.read ((k, v) :: m) a = if k = a then v else Memory.read m a := rfl

theorem read_erase (m : Memory) (a b : Nat) :
    Memory.read (Memory.erase m a) b = if a = b then Config.unlistedByte else Memory.read m b := by
  induction m with
  | nil => simp [Memory.erase]
  | cons c m ih =>
    obtain ⟨k, v⟩ := c
    by_cases hk : k = a
    · subst hk
      rw [show Memory.erase ((k, v) :: m) k = Memory.erase m k by simp [Memory.erase], ih, read_cons]
      split <;> rfl
    · rw [show Memory.erase ((k, v) :: m) a = (k, v) :: Memory.erase m a by simp [Memory.erase, hk], read_cons, read_cons, ih]
      by_cases h : k = b
      · subst h; simp [Ne.symm hk]
      · simp [h]

theorem read_insert (m : Memory) (a b : Nat) (v : Byte) (h : ∀ c ∈ m, c.1 ≠ a) :
    Memory.read (Memory.insert m a v) b = if a = b then v else Memory.read m b := by
  induction m with
  | nil => simp [Memory.insert, read_cons]
  | cons c m ih =>
    obtain ⟨k, w⟩ := c
    have hk : k ≠ a := h (k, w) (by simp)
    simp only [Memory.insert]
    split
    · rw [read_cons]
    · rw [read_cons, read_cons, ih (fun c hc => h c (by simp [hc]))]
      by_cases hb : k = b
      · subst hb; simp [Ne.symm hk]
      · simp [hb]

theorem not_mem_erase (m : Memory) (a : Nat) : ∀ c ∈ Memory.erase m a, c.1 ≠ a := by
  intro c hc
  simpa [Memory.erase] using (List.mem_filter.mp hc).2

/-- A read after a write gives the byte written at its address and the old byte everywhere else. -/
theorem read_write (m : Memory) (a b : Nat) (v : Byte) :
    Memory.read (Memory.write m a v) b = if a = b then v else Memory.read m b := by
  unfold Memory.write
  split
  · rename_i h; rw [read_erase, h]
  · rw [read_insert _ _ _ _ (not_mem_erase m a), read_erase]
    split <;> rfl

@[simp] theorem read_write_self (m : Memory) (a : Nat) (v : Byte) : Memory.read (Memory.write m a v) a = v := by
  simp [read_write]

theorem read_write_ne (m : Memory) {a b : Nat} (v : Byte) (h : a ≠ b) :
    Memory.read (Memory.write m a v) b = Memory.read m b := by
  simp [read_write, h]

theorem wfAbove_mono {lo hi : Nat} (h : lo ≤ hi) : ∀ {m : Memory}, Memory.wfAbove hi m = true → Memory.wfAbove lo m = true
  | [], _ => rfl
  | (k, v) :: m, hm => by
    simp only [Memory.wfAbove, Bool.and_eq_true, decide_eq_true_eq] at hm ⊢
    exact ⟨⟨h.trans hm.1.1, hm.1.2⟩, hm.2⟩

theorem wfAbove_erase (a : Nat) : ∀ {lo : Nat} {m : Memory},
    Memory.wfAbove lo m = true → Memory.wfAbove lo (Memory.erase m a) = true
  | _, [], h => h
  | lo, (k, v) :: m, h => by
    simp only [Memory.wfAbove, Bool.and_eq_true, decide_eq_true_eq] at h
    by_cases hk : k = a
    · rw [show Memory.erase ((k, v) :: m) a = Memory.erase m a by simp [Memory.erase, hk]]
      exact wfAbove_mono (by omega) (wfAbove_erase a h.2)
    · rw [show Memory.erase ((k, v) :: m) a = (k, v) :: Memory.erase m a by simp [Memory.erase, hk]]
      simp only [Memory.wfAbove, Bool.and_eq_true, decide_eq_true_eq]
      exact ⟨h.1, wfAbove_erase a h.2⟩

theorem wfAbove_insert (a : Nat) (v : Byte) (hv : v ≠ Config.unlistedByte) : ∀ {lo : Nat} {m : Memory}, lo ≤ a →
    (∀ c ∈ m, c.1 ≠ a) → Memory.wfAbove lo m = true → Memory.wfAbove lo (Memory.insert m a v) = true
  | lo, [], hlo, _, _ => by simp [Memory.insert, Memory.wfAbove, hlo, hv]
  | lo, (k, w) :: m, hlo, hne, h => by
    simp only [Memory.wfAbove, Bool.and_eq_true, decide_eq_true_eq] at h
    have hk : k ≠ a := hne (k, w) (by simp)
    simp only [Memory.insert]
    split
    · rename_i hak
      simp only [Memory.wfAbove, Bool.and_eq_true, decide_eq_true_eq]
      exact ⟨⟨hlo, hv⟩, ⟨hak, h.1.2⟩, h.2⟩
    · simp only [Memory.wfAbove, Bool.and_eq_true, decide_eq_true_eq]
      exact ⟨h.1, wfAbove_insert a v hv (by omega) (fun c hc => hne c (by simp [hc])) h.2⟩

/-- A write keeps the canonical form. -/
theorem wf_write {m : Memory} (h : Memory.wf m = true) (a : Nat) (v : Byte) : Memory.wf (Memory.write m a v) = true := by
  unfold Memory.write
  split
  · exact wfAbove_erase a h
  · rename_i hv
    exact wfAbove_insert a v hv (Nat.zero_le _) (not_mem_erase m a) (wfAbove_erase a h)

theorem read_of_wfAbove {lo b : Nat} (hb : b < lo) : ∀ {m : Memory}, Memory.wfAbove lo m = true →
    Memory.read m b = Config.unlistedByte
  | [], _ => rfl
  | (k, v) :: m, h => by
    simp only [Memory.wfAbove, Bool.and_eq_true, decide_eq_true_eq] at h
    rw [read_cons, if_neg (by omega)]
    exact read_of_wfAbove (by omega) h.2

/-- Two canonical memories that read alike are equal data. -/
theorem eq_of_read : ∀ {lo : Nat} {m m' : Memory}, Memory.wfAbove lo m = true → Memory.wfAbove lo m' = true →
    (∀ a, Memory.read m a = Memory.read m' a) → m = m'
  | _, [], [], _, _, _ => rfl
  | _, [], (k, v) :: m', _, h', hr => by
    simp only [Memory.wfAbove, Bool.and_eq_true, decide_eq_true_eq] at h'
    have := hr k
    simp [read_cons] at this
    exact absurd this.symm h'.1.2
  | _, (k, v) :: m, [], h, _, hr => by
    simp only [Memory.wfAbove, Bool.and_eq_true, decide_eq_true_eq] at h
    have := hr k
    simp [read_cons] at this
    exact absurd this h.1.2
  | lo, (k, v) :: m, (k', v') :: m', h, h', hr => by
    simp only [Memory.wfAbove, Bool.and_eq_true, decide_eq_true_eq] at h h'
    have hk : k = k' := by
      rcases Nat.lt_trichotomy k k' with hlt | heq | hgt
      · have := hr k
        rw [read_cons, if_pos rfl, read_cons, if_neg (by omega), read_of_wfAbove (by omega) h'.2] at this
        exact absurd this h.1.2
      · exact heq
      · have := hr k'
        rw [read_cons, if_neg (by omega), read_cons, if_pos rfl, read_of_wfAbove (by omega) h.2] at this
        exact absurd this.symm h'.1.2
    subst hk
    have hv : v = v' := by simpa [read_cons] using hr k
    subst hv
    rw [eq_of_read h.2 h'.2 (fun a => ?_)]
    by_cases ha : k = a
    · subst ha
      rw [read_of_wfAbove (by omega) h.2, read_of_wfAbove (by omega) h'.2]
    · simpa [read_cons, ha] using hr a

end Sys2Proof.Machine.Laws
end

