-- ==== Sys2Proof/Laws/State.lean ====
section
/-! SUPPORT. What each named update of the state leaves: one lemma per update and component, so that no later proof unfolds a
record update. -/

namespace Sys2Proof.Machine.Laws

variable (s : State)

/-! ### One register -/

@[simp] theorem setReg_irq (r : Reg8) (v : Byte) : (s.setReg r v).irq = s.irq := by cases r <;> rfl
@[simp] theorem setReg_ctl (r : Reg8) (v : Byte) : (s.setReg r v).ctl = s.ctl := by cases r <;> rfl
@[simp] theorem setReg_timer (r : Reg8) (v : Byte) : (s.setReg r v).timer = s.timer := by cases r <;> rfl
@[simp] theorem setReg_mem (r : Reg8) (v : Byte) : (s.setReg r v).mem = s.mem := by cases r <;> rfl
@[simp] theorem setReg_extRam (r : Reg8) (v : Byte) : (s.setReg r v).extRam = s.extRam := by cases r <;> rfl
@[simp] theorem setReg_bank (r : Reg8) (v : Byte) : (s.setReg r v).bank = s.bank := by cases r <;> rfl
@[simp] theorem setReg_ppu (r : Reg8) (v : Byte) : (s.setReg r v).ppu = s.ppu := by cases r <;> rfl
@[simp] theorem setReg_apu (r : Reg8) (v : Byte) : (s.setReg r v).apu = s.apu := by cases r <;> rfl
@[simp] theorem setReg_p1 (r : Reg8) (v : Byte) : (s.setReg r v).p1 = s.p1 := by cases r <;> rfl
@[simp] theorem setReg_plat (r : Reg8) (v : Byte) : (s.setReg r v).plat = s.plat := by cases r <;> rfl
@[simp] theorem setReg_regs_f (r : Reg8) (v : Byte) : (s.setReg r v).regs.f = s.regs.f := by cases r <;> rfl
@[simp] theorem setReg_regs_sp (r : Reg8) (v : Byte) : (s.setReg r v).regs.sp = s.regs.sp := by cases r <;> rfl
@[simp] theorem setReg_regs_pc (r : Reg8) (v : Byte) : (s.setReg r v).regs.pc = s.regs.pc := by cases r <;> rfl
@[simp] theorem setReg_regs_a (r : Reg8) (v : Byte) : (s.setReg r v).regs.a = if r = .a then v else s.regs.a := by cases r <;> rfl
@[simp] theorem setReg_regs_b (r : Reg8) (v : Byte) : (s.setReg r v).regs.b = if r = .b then v else s.regs.b := by cases r <;> rfl
@[simp] theorem setReg_regs_c (r : Reg8) (v : Byte) : (s.setReg r v).regs.c = if r = .c then v else s.regs.c := by cases r <;> rfl
@[simp] theorem setReg_regs_d (r : Reg8) (v : Byte) : (s.setReg r v).regs.d = if r = .d then v else s.regs.d := by cases r <;> rfl
@[simp] theorem setReg_regs_e (r : Reg8) (v : Byte) : (s.setReg r v).regs.e = if r = .e then v else s.regs.e := by cases r <;> rfl
@[simp] theorem setReg_regs_h (r : Reg8) (v : Byte) : (s.setReg r v).regs.h = if r = .h then v else s.regs.h := by cases r <;> rfl
@[simp] theorem setReg_regs_l (r : Reg8) (v : Byte) : (s.setReg r v).regs.l = if r = .l then v else s.regs.l := by cases r <;> rfl
@[simp] theorem setReg_reg_self (r : Reg8) (v : Byte) : (s.setReg r v).reg r = v := by cases r <;> rfl
theorem setReg_reg_ne (r q : Reg8) (v : Byte) (h : q ≠ r) : (s.setReg r v).reg q = s.reg q := by
  cases r <;> cases q <;> first | rfl | exact absurd rfl h
theorem setReg_reg (r q : Reg8) (v : Byte) : (s.setReg r v).reg q = if q = r then v else s.reg q := by
  cases r <;> cases q <;> rfl

/-! ### F, SP, PC, the cost, the request for the global enable, the pending flags, a byte of memory -/

@[simp] theorem setF_irq (v : Byte) : (s.setF v).irq = s.irq := rfl
@[simp] theorem setF_ctl (v : Byte) : (s.setF v).ctl = s.ctl := rfl
@[simp] theorem setF_timer (v : Byte) : (s.setF v).timer = s.timer := rfl
@[simp] theorem setF_mem (v : Byte) : (s.setF v).mem = s.mem := rfl
@[simp] theorem setF_extRam (v : Byte) : (s.setF v).extRam = s.extRam := rfl
@[simp] theorem setF_bank (v : Byte) : (s.setF v).bank = s.bank := rfl
@[simp] theorem setF_ppu (v : Byte) : (s.setF v).ppu = s.ppu := rfl
@[simp] theorem setF_apu (v : Byte) : (s.setF v).apu = s.apu := rfl
@[simp] theorem setF_p1 (v : Byte) : (s.setF v).p1 = s.p1 := rfl
@[simp] theorem setF_plat (v : Byte) : (s.setF v).plat = s.plat := rfl
@[simp] theorem setF_regs_f (v : Byte) : (s.setF v).regs.f = maskFlags v := rfl
@[simp] theorem setF_regs_sp (v : Byte) : (s.setF v).regs.sp = s.regs.sp := rfl
@[simp] theorem setF_regs_pc (v : Byte) : (s.setF v).regs.pc = s.regs.pc := rfl
@[simp] theorem setF_reg (v : Byte) (q : Reg8) : (s.setF v).reg q = s.reg q := by cases q <;> rfl
@[simp] theorem setF_bc (v : Byte) : (s.setF v).bc = s.bc := rfl
@[simp] theorem setF_de (v : Byte) : (s.setF v).de = s.de := rfl
@[simp] theorem setF_hl (v : Byte) : (s.setF v).hl = s.hl := rfl

@[simp] theorem setSP_irq (v : Word) : (s.setSP v).irq = s.irq := rfl
@[simp] theorem setSP_ctl (v : Word) : (s.setSP v).ctl = s.ctl := rfl
@[simp] theorem setSP_timer (v : Word) : (s.setSP v).timer = s.timer := rfl
@[simp] theorem setSP_mem (v : Word) : (s.setSP v).mem = s.mem := rfl
@[simp] theorem setSP_extRam (v : Word) : (s.setSP v).extRam = s.extRam := rfl
@[simp] theorem setSP_bank (v : Word) : (s.setSP v).bank = s.bank := rfl
@[simp] theorem setSP_ppu (v : Word) : (s.setSP v).ppu = s.ppu := rfl
@[simp] theorem setSP_apu (v : Word) : (s.setSP v).apu = s.apu := rfl
@[simp] theorem setSP_p1 (v : Word) : (s.setSP v).p1 = s.p1 := rfl
@[simp] theorem setSP_plat (v : Word) : (s.setSP v).plat = s.plat := rfl
@[simp] theorem setSP_regs_f (v : Word) : (s.setSP v).regs.f = s.regs.f := rfl
@[simp] theorem setSP_regs_sp (v : Word) : (s.setSP v).regs.sp = v := rfl
@[simp] theorem setSP_regs_pc (v : Word) : (s.setSP v).regs.pc = s.regs.pc := rfl
@[simp] theorem setSP_reg (v : Word) (q : Reg8) : (s.setSP v).reg q = s.reg q := by cases q <;> rfl
@[simp] theorem setSP_bc (v : Word) : (s.setSP v).bc = s.bc := rfl
@[simp] theorem setSP_de (v : Word) : (s.setSP v).de = s.de := rfl
@[simp] theorem setSP_hl (v : Word) : (s.setSP v).hl = s.hl := rfl

@[simp] theorem setPC_irq (v : Word) : (s.setPC v).irq = s.irq := rfl
@[simp] theorem setPC_ctl (v : Word) : (s.setPC v).ctl = s.ctl := rfl
@[simp] theorem setPC_timer (v : Word) : (s.setPC v).timer = s.timer := rfl
@[simp] theorem setPC_mem (v : Word) : (s.setPC v).mem = s.mem := rfl
@[simp] theorem setPC_extRam (v : Word) : (s.setPC v).extRam = s.extRam := rfl
@[simp] theorem setPC_bank (v : Word) : (s.setPC v).bank = s.bank := rfl
@[simp] theorem setPC_ppu (v : Word) : (s.setPC v).ppu = s.ppu := rfl
@[simp] theorem setPC_apu (v : Word) : (s.setPC v).apu = s.apu := rfl
@[simp] theorem setPC_p1 (v : Word) : (s.setPC v).p1 = s.p1 := rfl
@[simp] theorem setPC_plat (v : Word) : (s.setPC v).plat = s.plat := rfl
@[simp] theorem setPC_regs_f (v : Word) : (s.setPC v).regs.f = s.regs.f := rfl
@[simp] theorem setPC_regs_sp (v : Word) : (s.setPC v).regs.sp = s.regs.sp := rfl
@[simp] theorem setPC_regs_pc (v : Word) : (s.setPC v).regs.pc = v := rfl
@[simp] theorem setPC_reg (v : Word) (q : Reg8) : (s.setPC v).reg q = s.reg q := by cases q <;> rfl
@[simp] theorem setPC_bc (v : Word) : (s.setPC v).bc = s.bc := rfl
@[simp] theorem setPC_de (v : Word) : (s.setPC v).de = s.de := rfl
@[simp] theorem setPC_hl (v : Word) : (s.setPC v).hl = s.hl := rfl

@[simp] theorem setCost_regs (n : Nat) : (s.setCost n).regs = s.regs := rfl
@[simp] theorem setCost_irq (n : Nat) : (s.setCost n).irq = s.irq := rfl
@[simp] theorem setCost_timer (n : Nat) : (s.setCost n).timer = s.timer := rfl
@[simp] theorem setCost_mem (n : Nat) : (s.setCost n).mem = s.mem := rfl
@[simp] theorem setCost_extRam (n : Nat) : (s.setCost n).extRam = s.extRam := rfl
@[simp] theorem setCost_bank (n : Nat) : (s.setCost n).bank = s.bank := rfl
@[simp] theorem setCost_ppu (n : Nat) : (s.setCost n).ppu = s.ppu := rfl
@[simp] theorem setCost_apu (n : Nat) : (s.setCost n).apu = s.apu := rfl
@[simp] theorem setCost_p1 (n : Nat) : (s.setCost n).p1 = s.p1 := rfl
@[simp] theorem setCost_plat (n : Nat) : (s.setCost n).plat = s.plat := rfl
@[simp] theorem setCost_ctl_halted (n : Nat) : (s.setCost n).ctl.halted = s.ctl.halted := rfl
@[simp] theorem setCost_ctl_haltBug (n : Nat) : (s.setCost n).ctl.haltBug = s.ctl.haltBug := rfl
@[simp] theorem setCost_ctl_bootMapped (n : Nat) : (s.setCost n).ctl.bootMapped = s.ctl.bootMapped := rfl
@[simp] theorem setCost_ctl_fault (n : Nat) : (s.setCost n).ctl.fault = s.ctl.fault := rfl
@[simp] theorem setCost_ctl_cycleClock (n : Nat) : (s.setCost n).ctl.cycleClock = s.ctl.cycleClock := rfl
@[simp] theorem setCost_ctl_instrAddr (n : Nat) : (s.setCost n).ctl.instrAddr = s.ctl.instrAddr := rfl
@[simp] theorem setCost_ctl_cost (n : Nat) : (s.setCost n).ctl.cost = n := rfl
@[simp] theorem setCost_reg (n : Nat) (q : Reg8) : (s.setCost n).reg q = s.reg q := by cases q <;> rfl
@[simp] theorem setCost_bc (n : Nat) : (s.setCost n).bc = s.bc := rfl
@[simp] theorem setCost_de (n : Nat) : (s.setCost n).de = s.de := rfl
@[simp] theorem setCost_hl (n : Nat) : (s.setCost n).hl = s.hl := rfl

@[simp] theorem requestIme_regs (v : Bool) : (s.requestIme v).regs = s.regs := rfl
@[simp] theorem requestIme_ctl (v : Bool) : (s.requestIme v).ctl = s.ctl := rfl
@[simp] theorem requestIme_timer (v : Bool) : (s.requestIme v).timer = s.timer := rfl
@[simp] theorem requestIme_mem (v : Bool) : (s.requestIme v).mem = s.mem := rfl
@[simp] theorem requestIme_extRam (v : Bool) : (s.requestIme v).extRam = s.extRam := rfl
@[simp] theorem requestIme_bank (v : Bool) : (s.requestIme v).bank = s.bank := rfl
@[simp] theorem requestIme_ppu (v : Bool) : (s.requestIme v).ppu = s.ppu := rfl
@[simp] theorem requestIme_apu (v : Bool) : (s.requestIme v).apu = s.apu := rfl
@[simp] theorem requestIme_p1 (v : Bool) : (s.requestIme v).p1 = s.p1 := rfl
@[simp] theorem requestIme_plat (v : Bool) : (s.requestIme v).plat = s.plat := rfl
@[simp] theorem requestIme_irq_enable (v : Bool) : (s.requestIme v).irq.enable = s.irq.enable := rfl
@[simp] theorem requestIme_irq_flags (v : Bool) : (s.requestIme v).irq.flags = s.irq.flags := rfl
@[simp] theorem requestIme_irq_ime (v : Bool) : (s.requestIme v).irq.ime = s.irq.ime := rfl
@[simp] theorem requestIme_irq_pipe0 (v : Bool) : (s.requestIme v).irq.pipe0 = s.irq.pipe0 := rfl
@[simp] theorem requestIme_irq_pipe1 (v : Bool) : (s.requestIme v).irq.pipe1 = some v := rfl
@[simp] theorem requestIme_reg (v : Bool) (q : Reg8) : (s.requestIme v).reg q = s.reg q := by cases q <;> rfl
@[simp] theorem requestIme_bc (v : Bool) : (s.requestIme v).bc = s.bc := rfl
@[simp] theorem requestIme_de (v : Bool) : (s.requestIme v).de = s.de := rfl
@[simp] theorem requestIme_hl (v : Bool) : (s.requestIme v).hl = s.hl := rfl

@[simp] theorem raiseIF_regs (v : Byte) : (s.raiseIF v).regs = s.regs := rfl
@[simp] theorem raiseIF_ctl (v : Byte) : (s.raiseIF v).ctl = s.ctl := rfl
@[simp] theorem raiseIF_timer (v : Byte) : (s.raiseIF v).timer = s.timer := rfl
@[simp] theorem raiseIF_mem (v : Byte) : (s.raiseIF v).mem = s.mem := rfl
@[simp] theorem raiseIF_extRam (v : Byte) : (s.raiseIF v).extRam = s.extRam := rfl
@[simp] theorem raiseIF_bank (v : Byte) : (s.raiseIF v).bank = s.bank := rfl
@[simp] theorem raiseIF_ppu (v : Byte) : (s.raiseIF v).ppu = s.ppu := rfl
@[simp] theorem raiseIF_apu (v : Byte) : (s.raiseIF v).apu = s.apu := rfl
@[simp] theorem raiseIF_p1 (v : Byte) : (s.raiseIF v).p1 = s.p1 := rfl
@[simp] theorem raiseIF_plat (v : Byte) : (s.raiseIF v).plat = s.plat := rfl
@[simp] theorem raiseIF_irq_enable (v : Byte) : (s.raiseIF v).irq.enable = s.irq.enable := rfl
@[simp] theorem raiseIF_irq_flags (v : Byte) : (s.raiseIF v).irq.flags = s.irq.flags ||| v := rfl
@[simp] theorem raiseIF_irq_ime (v : Byte) : (s.raiseIF v).irq.ime = s.irq.ime := rfl
@[simp] theorem raiseIF_irq_pipe0 (v : Byte) : (s.raiseIF v).irq.pipe0 = s.irq.pipe0 := rfl
@[simp] theorem raiseIF_irq_pipe1 (v : Byte) : (s.raiseIF v).irq.pipe1 = s.irq.pipe1 := rfl
@[simp] theorem raiseIF_reg (v : Byte) (q : Reg8) : (s.raiseIF v).reg q = s.reg q := by cases q <;> rfl
@[simp] theorem raiseIF_bc (v : Byte) : (s.raiseIF v).bc = s.bc := rfl
@[simp] theorem raiseIF_de (v : Byte) : (s.raiseIF v).de = s.de := rfl
@[simp] theorem raiseIF_hl (v : Byte) : (s.raiseIF v).hl = s.hl := rfl

@[simp] theorem storeMem_regs (n : Nat) (v : Byte) : (s.storeMem n v).regs = s.regs := rfl
@[simp] theorem storeMem_irq (n : Nat) (v : Byte) : (s.storeMem n v).irq = s.irq := rfl
@[simp] theorem storeMem_ctl (n : Nat) (v : Byte) : (s.storeMem n v).ctl = s.ctl := rfl
@[simp] theorem storeMem_timer (n : Nat) (v : Byte) : (s.storeMem n v).timer = s.timer := rfl
@[simp] theorem storeMem_extRam (n : Nat) (v : Byte) : (s.storeMem n v).extRam = s.extRam := rfl
@[simp] theorem storeMem_bank (n : Nat) (v : Byte) : (s.storeMem n v).bank = s.bank := rfl
@[simp] theorem storeMem_ppu (n : Nat) (v : Byte) : (s.storeMem n v).ppu = s.ppu := rfl
@[simp] theorem storeMem_apu (n : Nat) (v : Byte) : (s.storeMem n v).apu = s.apu := rfl
@[simp] theorem storeMem_p1 (n : Nat) (v : Byte) : (s.storeMem n v).p1 = s.p1 := rfl
@[simp] theorem storeMem_plat (n : Nat) (v : Byte) : (s.storeMem n v).plat = s.plat := rfl
@[simp] theorem storeMem_mem (n : Nat) (v : Byte) : (s.storeMem n v).mem = Memory.write s.mem n v := rfl
@[simp] theorem storeMem_reg (n : Nat) (v : Byte) (q : Reg8) : (s.storeMem n v).reg q = s.reg q := by cases q <;> rfl
@[simp] theorem storeMem_bc (n : Nat) (v : Byte) : (s.storeMem n v).bc = s.bc := rfl
@[simp] theorem storeMem_de (n : Nat) (v : Byte) : (s.storeMem n v).de = s.de := rfl
@[simp] theorem storeMem_hl (n : Nat) (v : Byte) : (s.storeMem n v).hl = s.hl := rfl

/-! ### The two bytes of a pair -/

@[simp] theorem setHL_irq (v : Word) : (s.setHL v).irq = s.irq := rfl
@[simp] theorem setHL_ctl (v : Word) : (s.setHL v).ctl = s.ctl := rfl
@[simp] theorem setHL_timer (v : Word) : (s.setHL v).timer = s.timer := rfl
@[simp] theorem setHL_mem (v : Word) : (s.setHL v).mem = s.mem := rfl
@[simp] theorem setHL_extRam (v : Word) : (s.setHL v).extRam = s.extRam := rfl
@[simp] theorem setHL_bank (v : Word) : (s.setHL v).bank = s.bank := rfl
@[simp] theorem setHL_ppu (v : Word) : (s.setHL v).ppu = s.ppu := rfl
@[simp] theorem setHL_apu (v : Word) : (s.setHL v).apu = s.apu := rfl
@[simp] theorem setHL_p1 (v : Word) : (s.setHL v).p1 = s.p1 := rfl
@[simp] theorem setHL_plat (v : Word) : (s.setHL v).plat = s.plat := rfl
@[simp] theorem setHL_regs_a (v : Word) : (s.setHL v).regs.a = s.regs.a := rfl
@[simp] theorem setHL_regs_b (v : Word) : (s.setHL v).regs.b = s.regs.b := rfl
@[simp] theorem setHL_regs_c (v : Word) : (s.setHL v).regs.c = s.regs.c := rfl
@[simp] theorem setHL_regs_d (v : Word) : (s.setHL v).regs.d = s.regs.d := rfl
@[simp] theorem setHL_regs_e (v : Word) : (s.setHL v).regs.e = s.regs.e := rfl
@[simp] theorem setHL_regs_f (v : Word) : (s.setHL v).regs.f = s.regs.f := rfl
@[simp] theorem setHL_regs_sp (v : Word) : (s.setHL v).regs.sp = s.regs.sp := rfl
@[simp] theorem setHL_regs_pc (v : Word) : (s.setHL v).regs.pc = s.regs.pc := rfl
@[simp] theorem setHL_regs_h (v : Word) : (s.setHL v).regs.h = hiByte v := rfl
@[simp] theorem setHL_regs_l (v : Word) : (s.setHL v).regs.l = loByte v := rfl

@[simp] theorem setPair_irq (p : Pair) (v : Word) : (s.setPair p v).irq = s.irq := by cases p <;> rfl
@[simp] theorem setPair_ctl (p : Pair) (v : Word) : (s.setPair p v).ctl = s.ctl := by cases p <;> rfl
@[simp] theorem setPair_timer (p : Pair) (v : Word) : (s.setPair p v).timer = s.timer := by cases p <;> rfl
@[simp] theorem setPair_mem (p : Pair) (v : Word) : (s.setPair p v).mem = s.mem := by cases p <;> rfl
@[simp] theorem setPair_extRam (p : Pair) (v : Word) : (s.setPair p v).extRam = s.extRam := by cases p <;> rfl
@[simp] theorem setPair_bank (p : Pair) (v : Word) : (s.setPair p v).bank = s.bank := by cases p <;> rfl
@[simp] theorem setPair_ppu (p : Pair) (v : Word) : (s.setPair p v).ppu = s.ppu := by cases p <;> rfl
@[simp] theorem setPair_apu (p : Pair) (v : Word) : (s.setPair p v).apu = s.apu := by cases p <;> rfl
@[simp] theorem setPair_p1 (p : Pair) (v : Word) : (s.setPair p v).p1 = s.p1 := by cases p <;> rfl
@[simp] theorem setPair_plat (p : Pair) (v : Word) : (s.setPair p v).plat = s.plat := by cases p <;> rfl
@[simp] theorem setPair_regs_a (p : Pair) (v : Word) : (s.setPair p v).regs.a = s.regs.a := by cases p <;> rfl
@[simp] theorem setPair_regs_f (p : Pair) (v : Word) : (s.setPair p v).regs.f = s.regs.f := by cases p <;> rfl
@[simp] theorem setPair_regs_pc (p : Pair) (v : Word) : (s.setPair p v).regs.pc = s.regs.pc := by cases p <;> rfl

@[simp] theorem setStackPair_irq (p : StackPair) (v : Word) : (s.setStackPair p v).irq = s.irq := by cases p <;> rfl
@[simp] theorem setStackPair_ctl (p : StackPair) (v : Word) : (s.setStackPair p v).ctl = s.ctl := by cases p <;> rfl
@[simp] theorem setStackPair_timer (p : StackPair) (v : Word) : (s.setStackPair p v).timer = s.timer := by cases p <;> rfl
@[simp] theorem setStackPair_mem (p : StackPair) (v : Word) : (s.setStackPair p v).mem = s.mem := by cases p <;> rfl
@[simp] theorem setStackPair_extRam (p : StackPair) (v : Word) : (s.setStackPair p v).extRam = s.extRam := by cases p <;> rfl
@[simp] theorem setStackPair_bank (p : StackPair) (v : Word) : (s.setStackPair p v).bank = s.bank := by cases p <;> rfl
@[simp] theorem setStackPair_ppu (p : StackPair) (v : Word) : (s.setStackPair p v).ppu = s.ppu := by cases p <;> rfl
@[simp] theorem setStackPair_apu (p : StackPair) (v : Word) : (s.setStackPair p v).apu = s.apu := by cases p <;> rfl
@[simp] theorem setStackPair_p1 (p : StackPair) (v : Word) : (s.setStackPair p v).p1 = s.p1 := by cases p <;> rfl
@[simp] theorem setStackPair_plat (p : StackPair) (v : Word) : (s.setStackPair p v).plat = s.plat := by cases p <;> rfl
@[simp] theorem setStackPair_regs_sp (p : StackPair) (v : Word) : (s.setStackPair p v).regs.sp = s.regs.sp := by cases p <;> rfl
@[simp] theorem setStackPair_regs_pc (p : StackPair) (v : Word) : (s.setStackPair p v).regs.pc = s.regs.pc := by cases p <;> rfl

/-! ### Bytes and words -/

/-- A pair's value is `hi * 256 + lo` (R11). -/
theorem mkWord_toNat (h l : Byte) : (mkWord h l).toNat = h.toNat * 256 + l.toNat := by
  have hl := l.isLt
  show (h ++ l : BitVec (8 + 8)).toNat = _
  rw [BitVec.toNat_append, ← Nat.shiftLeft_add_eq_or_of_lt hl, Nat.shiftLeft_eq]
theorem getLsbD_mkWord (h l : Byte) (i : Nat) : (mkWord h l).getLsbD i = if i < 8 then l.getLsbD i else h.getLsbD (i - 8) := by
  show (h ++ l : BitVec (8 + 8)).getLsbD i = _
  rw [BitVec.getLsbD_append]
theorem hiByte_toNat (w : Word) : (hiByte w).toNat = w.toNat / 256 := by
  have := w.isLt
  simp only [hiByte, BitVec.extractLsb'_toNat, Nat.shiftRight_eq_div_pow]
  omega
theorem loByte_toNat (w : Word) : (loByte w).toNat = w.toNat % 256 := by
  simp [loByte]
@[simp] theorem mkWord_hi_lo (w : Word) : mkWord (hiByte w) (loByte w) = w := by
  apply BitVec.eq_of_toNat_eq
  rw [mkWord_toNat, hiByte_toNat, loByte_toNat]
  omega
@[simp] theorem hiByte_mkWord (h l : Byte) : hiByte (mkWord h l) = h := by
  apply BitVec.eq_of_toNat_eq
  have := l.isLt
  rw [hiByte_toNat, mkWord_toNat]
  omega
@[simp] theorem loByte_mkWord (h l : Byte) : loByte (mkWord h l) = l := by
  apply BitVec.eq_of_toNat_eq
  have := l.isLt
  rw [loByte_toNat, mkWord_toNat]
  omega
@[simp] theorem setHL_hl (v : Word) : (s.setHL v).hl = v := mkWord_hi_lo v
@[simp] theorem setPair_pair (p : Pair) (v : Word) : (s.setPair p v).pair p = v := by
  cases p <;> first | exact mkWord_hi_lo v | rfl

/-! ### The flags byte -/

@[simp] theorem flagZ_mkFlags (z n h c : Bool) : flagZ (mkFlags z n h c) = z := by
  cases z <;> cases n <;> cases h <;> cases c <;> rfl
@[simp] theorem flagN_mkFlags (z n h c : Bool) : flagN (mkFlags z n h c) = n := by
  cases z <;> cases n <;> cases h <;> cases c <;> rfl
@[simp] theorem flagH_mkFlags (z n h c : Bool) : flagH (mkFlags z n h c) = h := by
  cases z <;> cases n <;> cases h <;> cases c <;> rfl
@[simp] theorem flagC_mkFlags (z n h c : Bool) : flagC (mkFlags z n h c) = c := by
  cases z <;> cases n <;> cases h <;> cases c <;> rfl
/-- A flags byte built from four flags is one F can hold (R12). -/
@[simp] theorem maskFlags_mkFlags (z n h c : Bool) : maskFlags (mkFlags z n h c) = mkFlags z n h c := by
  cases z <;> cases n <;> cases h <;> cases c <;> rfl
/-- Masking leaves the low nibble 0 (R12). -/
@[simp] theorem maskFlags_low (v : Byte) : maskFlags v &&& 0x0F = 0 := by
  simp [maskFlags, BitVec.and_assoc]

/-! ### Reads depend on no register -/

/-- The bus reads the same in two states that agree on everything but registers, run state, IME and its pipeline, if the boot
image is mapped in both or in neither. -/
theorem memRead_congr (s t : State) (a : Word) (hb : t.ctl.bootMapped = s.ctl.bootMapped) (he : t.irq.enable = s.irq.enable)
    (hf : t.irq.flags = s.irq.flags) (ht : t.timer = s.timer) (hm : t.mem = s.mem) (hx : t.extRam = s.extRam)
    (hk : t.bank = s.bank) (hp : t.ppu = s.ppu) (hu : t.apu = s.apu) (h1 : t.p1 = s.p1) (hq : t.plat = s.plat) :
    t.memRead a = s.memRead a := by
  simp only [State.memRead, State.busRead, State.readRomFixed, State.videoRamBlocked, State.oamBlocked, State.ramReachable,
    State.ramEnabled, State.ramOffset, State.readIo, State.readP1, hb, he, hf, ht, hm, hx, hk, hp, hu, h1, hq]
  rfl
@[simp] theorem setReg_memRead (r : Reg8) (v : Byte) (a : Word) : (s.setReg r v).memRead a = s.memRead a := by
  apply memRead_congr <;> simp
@[simp] theorem setF_memRead (v : Byte) (a : Word) : (s.setF v).memRead a = s.memRead a := rfl
@[simp] theorem setSP_memRead (v : Word) (a : Word) : (s.setSP v).memRead a = s.memRead a := rfl
@[simp] theorem setPC_memRead (v : Word) (a : Word) : (s.setPC v).memRead a = s.memRead a := rfl
@[simp] theorem setCost_memRead (n : Nat) (a : Word) : (s.setCost n).memRead a = s.memRead a := rfl
@[simp] theorem requestIme_memRead (v : Bool) (a : Word) : (s.requestIme v).memRead a = s.memRead a := rfl
@[simp] theorem setHL_memRead (v : Word) (a : Word) : (s.setHL v).memRead a = s.memRead a := rfl
@[simp] theorem setPair_memRead (p : Pair) (v : Word) (a : Word) : (s.setPair p v).memRead a = s.memRead a := by
  apply memRead_congr <;> simp
@[simp] theorem setStackPair_memRead (p : StackPair) (v : Word) (a : Word) : (s.setStackPair p v).memRead a = s.memRead a := by
  apply memRead_congr <;> simp

end Sys2Proof.Machine.Laws
end

