-- ==== Sys2Proof/Laws/Bus.lean ====
section
/-! SUPPORT. The bus: who owns an address, what one write can change, and what it never changes. -/

namespace Sys2Proof.Machine.Laws

variable (s : State)

/-! ### The address map -/

/-- Every address is owned by one region, and the regions' ranges are R55's. -/
theorem regionOf_cases (n : Nat) :
    (n < 0x4000 ∧ regionOf n = .romFixed) ∨ (0x4000 ≤ n ∧ n < 0x8000 ∧ regionOf n = .romBank) ∨
    (0x8000 ≤ n ∧ n < 0xA000 ∧ regionOf n = .videoRam) ∨ (0xA000 ≤ n ∧ n < 0xC000 ∧ regionOf n = .extRam) ∨
    (0xC000 ≤ n ∧ n < 0xE000 ∧ regionOf n = .workRam) ∨ (0xE000 ≤ n ∧ n < 0xFE00 ∧ regionOf n = .echo) ∨
    (0xFE00 ≤ n ∧ n < 0xFEA0 ∧ regionOf n = .oam) ∨ (0xFEA0 ≤ n ∧ n < 0xFF00 ∧ regionOf n = .unused) ∨
    (0xFF00 ≤ n ∧ n < 0xFF80 ∧ regionOf n = .io) ∨ (0xFF80 ≤ n ∧ n < 0xFFFF ∧ regionOf n = .highRam) ∨
    (0xFFFF ≤ n ∧ regionOf n = .ie) := by
  unfold regionOf
  split_ifs <;> simp <;> omega

theorem regionOf_romFixed {n : Nat} (hi : n < 0x4000) : regionOf n = .romFixed := by
  unfold regionOf; rw [if_pos hi]
theorem regionOf_romBank {n : Nat} (lo : 0x4000 ≤ n) (hi : n < 0x8000) : regionOf n = .romBank := by
  unfold regionOf; split_ifs <;> first | rfl | omega
theorem regionOf_videoRam {n : Nat} (lo : 0x8000 ≤ n) (hi : n < 0xA000) : regionOf n = .videoRam := by
  unfold regionOf; split_ifs <;> first | rfl | omega
theorem regionOf_extRam {n : Nat} (lo : 0xA000 ≤ n) (hi : n < 0xC000) : regionOf n = .extRam := by
  unfold regionOf; split_ifs <;> first | rfl | omega
theorem regionOf_workRam {n : Nat} (lo : 0xC000 ≤ n) (hi : n < 0xE000) : regionOf n = .workRam := by
  unfold regionOf; split_ifs <;> first | rfl | omega
theorem regionOf_echo {n : Nat} (lo : 0xE000 ≤ n) (hi : n < 0xFE00) : regionOf n = .echo := by
  unfold regionOf; split_ifs <;> first | rfl | omega
theorem regionOf_oam {n : Nat} (lo : 0xFE00 ≤ n) (hi : n < 0xFEA0) : regionOf n = .oam := by
  unfold regionOf; split_ifs <;> first | rfl | omega
theorem regionOf_unused {n : Nat} (lo : 0xFEA0 ≤ n) (hi : n < 0xFF00) : regionOf n = .unused := by
  unfold regionOf; split_ifs <;> first | rfl | omega
theorem regionOf_io {n : Nat} (lo : 0xFF00 ≤ n) (hi : n < 0xFF80) : regionOf n = .io := by
  unfold regionOf; split_ifs <;> first | rfl | omega
theorem regionOf_highRam {n : Nat} (lo : 0xFF80 ≤ n) (hi : n < 0xFFFF) : regionOf n = .highRam := by
  unfold regionOf; split_ifs <;> first | rfl | omega
theorem regionOf_ie {n : Nat} (lo : 0xFFFF ≤ n) : regionOf n = .ie := by
  unfold regionOf; split_ifs <;> first | rfl | omega

/-! ### What a write never changes: registers, run state, global enable, platform -/

theorem dma_fold_frame (page : Byte) (l : List Nat) : ∀ s : State,
    let t := l.foldl (State.dmaByte page) s
    t.regs = s.regs ∧ t.irq = s.irq ∧ t.ctl = s.ctl ∧ t.timer = s.timer ∧ t.extRam = s.extRam ∧ t.bank = s.bank ∧
      t.ppu = s.ppu ∧ t.apu = s.apu ∧ t.p1 = s.p1 ∧ t.plat = s.plat := by
  induction l with
  | nil => intro s; simp
  | cons i l ih =>
    intro s
    have h := ih (State.dmaByte page s i)
    exact h

/-- The DMA copy changes OAM bytes of `mem` and the DMA register only (R64). -/
theorem dma_frame (page : Byte) :
    (s.dma page).regs = s.regs ∧ (s.dma page).irq = s.irq ∧ (s.dma page).ctl = s.ctl ∧ (s.dma page).timer = s.timer ∧
      (s.dma page).extRam = s.extRam ∧ (s.dma page).bank = s.bank ∧ (s.dma page).ppu = { s.ppu with dma := page } ∧
      (s.dma page).apu = s.apu ∧ (s.dma page).p1 = s.p1 ∧ (s.dma page).plat = s.plat :=
  dma_fold_frame page (List.range 160) { s with ppu := { s.ppu with dma := page } }

/-- What one bus write can change: everything but the CPU's registers, its run state, the global enable and the platform. -/
theorem memWrite_frame (a : Word) (v : Byte) :
    (s.memWrite a v).regs = s.regs ∧ (s.memWrite a v).ctl = s.ctl ∧ (s.memWrite a v).plat = s.plat ∧
      (s.memWrite a v).irq.ime = s.irq.ime ∧ (s.memWrite a v).irq.pipe0 = s.irq.pipe0 ∧
      (s.memWrite a v).irq.pipe1 = s.irq.pipe1 := by
  unfold State.memWrite
  dsimp only
  split
  · unfold State.bankCommand; split <;> (try split) <;> (try split) <;> simp
  · unfold State.bankCommand; split <;> (try split) <;> (try split) <;> simp
  · split <;> simp
  · split <;> simp
  · simp
  · simp
  · split <;> simp
  · simp
  · unfold State.writeIo
    split <;> simp [dma_frame]
  · simp
  · simp

@[simp] theorem memWrite_regs (a : Word) (v : Byte) : (s.memWrite a v).regs = s.regs := (memWrite_frame s a v).1
@[simp] theorem memWrite_ctl (a : Word) (v : Byte) : (s.memWrite a v).ctl = s.ctl := (memWrite_frame s a v).2.1
@[simp] theorem memWrite_plat (a : Word) (v : Byte) : (s.memWrite a v).plat = s.plat := (memWrite_frame s a v).2.2.1
@[simp] theorem memWrite_ime (a : Word) (v : Byte) : (s.memWrite a v).irq.ime = s.irq.ime := (memWrite_frame s a v).2.2.2.1
@[simp] theorem memWrite_pipe0 (a : Word) (v : Byte) : (s.memWrite a v).irq.pipe0 = s.irq.pipe0 :=
  (memWrite_frame s a v).2.2.2.2.1
@[simp] theorem memWrite_pipe1 (a : Word) (v : Byte) : (s.memWrite a v).irq.pipe1 = s.irq.pipe1 :=
  (memWrite_frame s a v).2.2.2.2.2
@[simp] theorem memWrite_reg (a : Word) (v : Byte) (r : Reg8) : (s.memWrite a v).reg r = s.reg r := by
  cases r <;> simp [State.reg]

/-! ### Writes to plain storage -/

/-- A write to high RAM stores a byte of `mem`. -/
theorem memWrite_highRam {a : Word} {v : Byte} (h : regionOf a.toNat = .highRam) : s.memWrite a v = s.storeMem a.toNat v := by
  simp [State.memWrite, h]
theorem memWrite_workRam {a : Word} {v : Byte} (h : regionOf a.toNat = .workRam) : s.memWrite a v = s.storeMem a.toNat v := by
  simp [State.memWrite, h]
/-- The echo has no bytes of its own (R58). -/
theorem memWrite_echo {a : Word} {v : Byte} (h : regionOf a.toNat = .echo) :
    s.memWrite a v = s.storeMem (a.toNat - 0x2000) v := by
  simp [State.memWrite, h]
theorem memRead_highRam {a : Word} (h : regionOf a.toNat = .highRam) : s.memRead a = Memory.read s.mem a.toNat := by
  simp [State.memRead, State.busRead, h]
theorem memRead_workRam {a : Word} (h : regionOf a.toNat = .workRam) : s.memRead a = Memory.read s.mem a.toNat := by
  simp [State.memRead, State.busRead, h]
theorem memRead_echo {a : Word} (h : regionOf a.toNat = .echo) : s.memRead a = Memory.read s.mem (a.toNat - 0x2000) := by
  simp [State.memRead, State.busRead, h]

/-! ### The sound registers' addresses (R24, R364) -/

theorem ioRegOf_sound {n : Nat} (lo : 0xFF10 ≤ n) (hi : n ≤ 0xFF25) (h15 : n ≠ 0xFF15) (h1F : n ≠ 0xFF1F) : ioRegOf n = .sound :=
  if_pos ⟨lo, hi, h15, h1F⟩
/-- A sound register reads as the byte stored (R364). -/
theorem memRead_sound {a : Word} (h : ioRegOf a.toNat = .sound) (lo : 0xFF10 ≤ a.toNat) (hi : a.toNat ≤ 0xFF25) :
    s.memRead a = s.apu.reg (a.toNat - 0xFF10) := by
  simp [State.memRead, State.busRead, regionOf_io (Nat.le_trans (by decide) lo) (Nat.lt_of_le_of_lt hi (by decide)), State.readIo, h]
/-- A write to a sound register is the sound unit's (R364, R366). -/
theorem memWrite_sound {a : Word} (v : Byte) (h : ioRegOf a.toNat = .sound) (lo : 0xFF10 ≤ a.toNat) (hi : a.toNat ≤ 0xFF25) :
    s.memWrite a v = { s with apu := s.apu.writeReg (a.toNat - 0xFF10) v } := by
  simp [State.memWrite, regionOf_io (Nat.le_trans (by decide) lo) (Nat.lt_of_le_of_lt hi (by decide)), State.writeIo, h]
/-- The two unlisted addresses among them are plain storage (R24, log entry 20). -/
@[simp] theorem ioRegOf_FF15 : ioRegOf 0xFF15 = .plain := rfl
@[simp] theorem ioRegOf_FF1F : ioRegOf 0xFF1F = .plain := rfl

end Sys2Proof.Machine.Laws
end

