-- ==== Sys2Proof/Laws/Decode.lean ====
section
/-! SUPPORT. The decoder is total on three bytes, and what it leaves of them is what the opcode's length says. -/

namespace Sys2Proof.Laws

open Sys2Proof.Machine

/-- How many bytes the format of a cell takes; 0 for no cell (R90). -/
def cellLength : Option Cell → Nat
  | none => 0
  | some (.op _) => 1
  | some (.opN _) => 2
  | some (.opNN _) => 3
  | some .secondTable => 2

/-- Every opcode byte has a cell of the primary table, and its format fits the opcode's length (R90, R95, R96). -/
theorem cellLength_primaryCell : ∀ op : Byte, cellLength (primaryCell op) = opcodeLength op := by decide +kernel

theorem opcodeLength_pos : ∀ op : Byte, 0 < opcodeLength op := by decide +kernel

/-- Every second byte has a cell of the prefixed table (R97). -/
theorem prefixedInstr_total : ∀ op : Byte, (prefixedInstr op).isSome = true := by decide +kernel

/-- Three bytes always hold an instruction, and the opcode byte alone decides how many of them it takes (R90, R95). -/
theorem decode_three (b0 b1 b2 : Byte) :
    ∃ i rest, decode [b0, b1, b2] = .ok (i, rest) ∧ rest.length = 3 - opcodeLength b0 := by
  have h := cellLength_primaryCell b0
  have hp := opcodeLength_pos b0
  unfold decode
  dsimp only
  cases hc : primaryCell b0 with
  | none => rw [hc] at h; rw [← h] at hp; exact absurd hp (by decide)
  | some c =>
    rw [hc] at h
    rw [← h]
    cases c with
    | op i => exact ⟨i, [b1, b2], rfl, rfl⟩
    | opN f => exact ⟨f b1, [b2], rfl, rfl⟩
    | opNN f => exact ⟨f (mkWord b2 b1), [], rfl, rfl⟩
    | secondTable =>
      obtain ⟨i, hi⟩ := Option.isSome_iff_exists.mp (prefixedInstr_total b1)
      exact ⟨i, [b2], by simp [hi], rfl⟩

/-- The decoder reads an instruction from every three bytes. -/
theorem decode_three_total (b0 b1 b2 : Byte) : ∃ i rest, decode [b0, b1, b2] = .ok (i, rest) := by
  obtain ⟨i, rest, h, -⟩ := decode_three b0 b1 b2
  exact ⟨i, rest, h⟩

/-! ### What is read is well formed: the prefix never stands alone in the tables (R275) -/

/-- A cell whose instruction is well formed for every operand. -/
def CellWf : Cell → Prop
  | .op i => WellFormed i = true
  | .opN f => ∀ n, WellFormed (f n) = true
  | .opNN f => ∀ nn, WellFormed (f nn) = true
  | .secondTable => True

/-- A list of cells each well formed, as one conjunction. -/
def CellsWf : List Cell → Prop
  | [] => True
  | c :: l => CellWf c ∧ CellsWf l

theorem CellsWf.of_mem {l : List Cell} (h : CellsWf l) : ∀ c ∈ l, CellWf c := by
  induction l with
  | nil => intro c hc; cases hc
  | cons d l ih =>
    intro c hc
    rcases List.mem_cons.mp hc with rfl | hc
    · exact h.1
    · exact ih h.2 c hc

theorem primaryTable_wf : ∀ row ∈ primaryTable, CellsWf row := by
  intro row h
  simp only [primaryTable, List.mem_cons, List.not_mem_nil, or_false] at h
  rcases h with rfl | rfl | rfl | rfl | rfl | rfl | rfl | rfl | rfl | rfl | rfl | rfl | rfl | rfl | rfl | rfl <;>
    (repeat' constructor) <;> exact fun _ => rfl

theorem primaryCell_wf {op : Byte} {c : Cell} (h : primaryCell op = some c) : CellWf c := by
  obtain ⟨row, h1, h2⟩ := Option.bind_eq_some_iff.mp h
  exact (primaryTable_wf row (List.mem_of_getElem? h1)).of_mem c (List.mem_of_getElem? h2)

theorem prefixedTable_wf : prefixedTable.all (fun row => row.all WellFormed) = true := by decide +kernel

theorem prefixedInstr_wf {op : Byte} {i : Instr} (h : prefixedInstr op = some i) : WellFormed i = true := by
  obtain ⟨row, h1, h2⟩ := Option.bind_eq_some_iff.mp h
  exact List.all_eq_true.mp (List.all_eq_true.mp prefixedTable_wf row (List.mem_of_getElem? h1)) i (List.mem_of_getElem? h2)

/-- What the decoder reads from two bytes or more is well formed. -/
theorem decode_wf {op b1 : Byte} {l rest : List Byte} {i : Instr} (h : decode (op :: b1 :: l) = .ok (i, rest)) :
    WellFormed i = true := by
  unfold decode at h
  dsimp only at h
  split at h <;> rename_i hc
  · cases h
  · cases h; exact primaryCell_wf hc
  · cases h; exact primaryCell_wf hc b1
  · split at h
    · cases h; exact primaryCell_wf hc _
    · cases h
  · split at h
    · cases h; exact prefixedInstr_wf ‹_›
    · cases h

end Sys2Proof.Laws
end

