-- ==== Sys2Proof/Laws/Devices.lean ====
section
/-! SUPPORT. The devices: what a tick of the timers, the PPU and the APU can do, and the ranges they keep. -/

namespace Sys2Proof.Machine.Laws

/-! ### Rounds of a loop -/

@[simp] theorem repeatN_zero {α : Type} (f : α → α) (x : α) : repeatN 0 f x = x := rfl
theorem repeatN_succ {α : Type} (k : Nat) (f : α → α) (x : α) : repeatN (k + 1) f x = repeatN k f (f x) := rfl
theorem repeatN_add {α : Type} (j k : Nat) (f : α → α) (x : α) : repeatN (j + k) f x = repeatN k f (repeatN j f x) := by
  induction j generalizing x with
  | zero => simp
  | succ j ih => rw [Nat.succ_add, repeatN_succ, repeatN_succ, ih]
/-- What one round keeps, all rounds keep. -/
theorem repeatN_induct {α : Type} (P : α → Prop) (f : α → α) (hf : ∀ x, P x → P (f x)) (k : Nat) (x : α) (h : P x) :
    P (repeatN k f x) := by
  induction k generalizing x with
  | zero => exact h
  | succ k ih => exact ih (f x) (hf x h)

/-- The loop "while counter ≥ period: counter ← counter − period; body" runs its body `counter / period` times and leaves
`counter % period`: one unrolling of that loop (R460, R368). -/
theorem repeatN_div_step {α : Type} (f : α → α) (c p : Nat) (hp : 0 < p) (hc : p ≤ c) (x : α) :
    repeatN (c / p) f x = repeatN ((c - p) / p) f (f x) ∧ c % p = (c - p) % p := by
  have h : c / p = (c - p) / p + 1 := by
    rw [← Nat.add_div_right _ hp, Nat.sub_add_cancel hc]
  exact ⟨by rw [h, repeatN_succ], by rw [Nat.mod_eq_sub_mod hc]⟩

/-! ### Timers -/

theorem timerPeriod_pos (tac : Byte) : 0 < timerPeriod tac := by unfold timerPeriod; split <;> omega
theorem timerPeriod_le (tac : Byte) : timerPeriod tac ≤ 1024 := by unfold timerPeriod; split <;> omega

/-- An increment of TIMA touches TIMA and IF bit 2 only (R463). -/
theorem timaIncrement_frame (t : Timer × Byte) :
    (timaIncrement t).1.divCounter = t.1.divCounter ∧ (timaIncrement t).1.div = t.1.div ∧
      (timaIncrement t).1.timaCounter = t.1.timaCounter ∧ (timaIncrement t).1.tma = t.1.tma ∧
      (timaIncrement t).1.tac = t.1.tac ∧ (timaIncrement t).2 &&& ~~~(0x04 : Byte) = t.2 &&& ~~~(0x04 : Byte) := by
  unfold timaIncrement
  split <;> simp [BitVec.and_or_distrib_right]

theorem timaIncrements_frame (k : Nat) (t : Timer × Byte) :
    (repeatN k timaIncrement t).1.divCounter = t.1.divCounter ∧ (repeatN k timaIncrement t).1.div = t.1.div ∧
      (repeatN k timaIncrement t).1.timaCounter = t.1.timaCounter ∧ (repeatN k timaIncrement t).1.tma = t.1.tma ∧
      (repeatN k timaIncrement t).1.tac = t.1.tac := by
  induction k generalizing t with
  | zero => simp
  | succ k ih =>
    have h := timaIncrement_frame t
    rw [repeatN_succ]
    have := ih (timaIncrement t)
    exact ⟨this.1.trans h.1, this.2.1.trans h.2.1, this.2.2.1.trans h.2.2.1, this.2.2.2.1.trans h.2.2.2.1,
      this.2.2.2.2.trans h.2.2.2.2.1⟩

/-- One increment that overflows, and one that does not (R463). -/
theorem timaIncrement_overflow {t : Timer} (f : Byte) (h : t.tima = 0xFF) :
    timaIncrement (t, f) = ({ t with tima := t.tma }, f ||| 0x04) := if_pos h
theorem timaIncrement_plain {t : Timer} (f : Byte) (h : t.tima ≠ 0xFF) :
    timaIncrement (t, f) = ({ t with tima := t.tima + 1 }, f) := if_neg h

/-- Increments of TIMA do not look at the raised bits they collect. -/
theorem timaIncrements_or (k : Nat) : ∀ (t : Timer) (f : Byte),
    repeatN k timaIncrement (t, f) = ((repeatN k timaIncrement (t, 0)).1, f ||| (repeatN k timaIncrement (t, 0)).2) := by
  induction k with
  | zero => intro t f; simp
  | succ k ih =>
    intro t f
    rw [repeatN_succ, repeatN_succ]
    by_cases h : t.tima = 0xFF
    · rw [timaIncrement_overflow f h, timaIncrement_overflow 0 h, ih _ (f ||| 0x04), ih _ (0 ||| 0x04)]
      simp [BitVec.or_assoc]
    · rw [timaIncrement_plain f h, timaIncrement_plain 0 h, ih _ f]

/-- Increments of TIMA do not look at DIV or at the cycle counters. -/
theorem timaIncrements_with (k c d : Nat) (v : Byte) : ∀ (t : Timer) (f : Byte),
    repeatN k timaIncrement ({ t with timaCounter := c, divCounter := d, div := v }, f) =
      ({ (repeatN k timaIncrement (t, f)).1 with timaCounter := c, divCounter := d, div := v },
        (repeatN k timaIncrement (t, f)).2) := by
  induction k with
  | zero => intro t f; rfl
  | succ k ih =>
    intro t f
    rw [repeatN_succ, repeatN_succ]
    by_cases h : t.tima = 0xFF
    · rw [timaIncrement_overflow f h,
        timaIncrement_overflow (t := { t with timaCounter := c, divCounter := d, div := v }) f h]
      exact ih { t with tima := t.tma } _
    · rw [timaIncrement_plain f h,
        timaIncrement_plain (t := { t with timaCounter := c, divCounter := d, div := v }) f h]
      exact ih { t with tima := t.tima + 1 } _

/-- What a tick does to an enabled TIMA (R460, R462), and that it leaves a disabled one. -/
theorem timerTick_enabled (n : Nat) {t : Timer} (h : t.tac.getLsbD 2 = true) :
    timerTick n t = repeatN ((t.timaCounter + n) / timerPeriod t.tac) timaIncrement
      ({ divTick n t with timaCounter := (t.timaCounter + n) % timerPeriod t.tac }, 0) := if_pos h
/-- The same with the increments taken from the timers as they were. -/
theorem timerTick_eq (n : Nat) {t : Timer} (h : t.tac.getLsbD 2 = true) :
    let r := repeatN ((t.timaCounter + n) / timerPeriod t.tac) timaIncrement (t, 0)
    timerTick n t =
      ({ r.1 with
          timaCounter := (t.timaCounter + n) % timerPeriod t.tac
          divCounter := (t.divCounter + n) % 256
          div := t.div + BitVec.ofNat 8 ((t.divCounter + n) / 256) }, r.2) :=
  (timerTick_enabled n h).trans (timaIncrements_with _ _ _ _ t 0)
theorem timerTick_disabled (n : Nat) {t : Timer} (h : t.tac.getLsbD 2 = false) : timerTick n t = (divTick n t, 0) :=
  if_neg (by rw [show (divTick n t).tac = t.tac from rfl, h]; decide)

/-- A tick keeps the cycle counters in their ranges (R20) and never writes TMA or TAC. -/
theorem timerTick_range (n : Nat) (t : Timer) (h : t.timaCounter < 1024) :
    (timerTick n t).1.divCounter < 256 ∧ (timerTick n t).1.timaCounter < 1024 ∧ (timerTick n t).1.tma = t.tma ∧
      (timerTick n t).1.tac = t.tac := by
  unfold timerTick timaTick
  split
  · have h1 := timaIncrements_frame (((divTick n t).timaCounter + n) / timerPeriod (divTick n t).tac)
      ({ divTick n t with timaCounter := ((divTick n t).timaCounter + n) % timerPeriod (divTick n t).tac }, 0)
    refine ⟨?_, ?_, ?_, ?_⟩
    · rw [h1.1]; simp [divTick, Nat.mod_lt]
    · rw [h1.2.2.1]
      exact (Nat.mod_lt _ (timerPeriod_pos _)).trans_le (timerPeriod_le _)
    · rw [h1.2.2.2.1]; rfl
    · rw [h1.2.2.2.2]; rfl
  · simp [divTick, Nat.mod_lt, h]

/-! ### The PPU's sequencer -/

/-- The ranges the sequencer keeps while its loop runs; the accumulator's bound is reached at the end of the loop. -/
def PpuShape (p : Ppu) : Prop := p.ly.toNat ≤ 153 ∧ (p.mode ≠ .vBlank → p.ly.toNat ≤ 143)

/-- `StatEvent` and `SetLY` as pairs: the PPU and the bits raised (R314, R318, R320). -/
theorem statEvent_eq (b : Nat) (p : Ppu) (f : Byte) :
    statEvent b (p, f) = (p, f ||| if p.stat.getLsbD b then 0x02 else 0x00) := by
  unfold statEvent; split <;> simp [*]
theorem setLY_eq (v : Byte) (p : Ppu) (f : Byte) :
    setLY v (p, f) = ({ p with ly := v }, f ||| if decide (v = p.lyc) && p.stat.getLsbD 6 then 0x02 else 0x00) := by
  unfold setLY
  dsimp only
  split
  · rename_i h; rw [statEvent_eq]; simp [h]
  · rename_i h; simp [h]
@[simp] theorem statEvent_ppu (b : Nat) (q : Ppu × Byte) : (statEvent b q).1 = q.1 := by
  unfold statEvent; split <;> rfl
@[simp] theorem setLY_ppu (v : Byte) (q : Ppu × Byte) : (setLY v q).1 = { q.1 with ly := v } := by
  unfold setLY; dsimp only; split <;> simp
@[simp] theorem enterMode_ppu (m : PpuMode) (b : Nat) (q : Ppu × Byte) :
    (enterMode m b q).1 = { q.1 with mode := m, acc := q.1.acc - b } := rfl
@[simp] theorem renderLine_but_fb (m : Memory) (p : Ppu) (ly : Nat) :
    (renderLine m p ly).mode = p.mode ∧ (renderLine m p ly).ly = p.ly ∧ (renderLine m p ly).acc = p.acc ∧
      (renderLine m p ly).lcdc = p.lcdc ∧ (renderLine m p ly).stat = p.stat := by simp [renderLine]

/-- One transition of the sequencer (R310): the mode that follows, the line counter and the cycles left; registers stay. -/
theorem ppuTransition_cases {m : Memory} {q q' : Ppu × Byte} (h : ppuTransition m q = some q') :
    modeBudget q.1.mode ≤ q.1.acc ∧ q'.1.acc = q.1.acc - modeBudget q.1.mode ∧ q'.1.lcdc = q.1.lcdc ∧ q'.1.stat = q.1.stat ∧
    ((q.1.mode = .oamScan ∧ q'.1.mode = .drawing ∧ q'.1.ly = q.1.ly) ∨
     (q.1.mode = .drawing ∧ q'.1.mode = .hBlank ∧ q'.1.ly = q.1.ly) ∨
     (q.1.mode = .hBlank ∧ q.1.ly + 1 = 144 ∧ q'.1.mode = .vBlank ∧ q'.1.ly = 144) ∨
     (q.1.mode = .hBlank ∧ q.1.ly + 1 ≠ 144 ∧ q'.1.mode = .oamScan ∧ q'.1.ly = q.1.ly + 1) ∨
     (q.1.mode = .vBlank ∧ q.1.ly = 153 ∧ q'.1.mode = .oamScan ∧ q'.1.ly = 0) ∨
     (q.1.mode = .vBlank ∧ q.1.ly ≠ 153 ∧ q'.1.mode = .vBlank ∧ q'.1.ly = q.1.ly + 1)) := by
  unfold ppuTransition at h
  split at h
  · simp at h
  · rename_i hb
    refine ⟨by omega, ?_⟩
    split at h <;> rename_i hm
    · obtain rfl := Option.some.inj h; simp [hm, modeBudget]
    · obtain rfl := Option.some.inj h; simp [hm, modeBudget, renderLine]
    · dsimp only at h
      split at h <;> rename_i hly <;> obtain rfl := Option.some.inj h <;> simp at hly <;> simp [hm, modeBudget, hly]
    · dsimp only at h
      split at h <;> rename_i hly <;> obtain rfl := Option.some.inj h <;> simp at hly <;> simp [hm, modeBudget, hly]

theorem byte_add_one {b : Byte} {n : Nat} (h : b.toNat ≤ n) (hn : n < 255) : (b + 1).toNat = b.toNat + 1 := by
  rw [BitVec.toNat_add]; simp; omega

theorem ppuTransition_shape {m : Memory} {q q' : Ppu × Byte} (h : ppuTransition m q = some q') (hq : PpuShape q.1) :
    PpuShape q'.1 := by
  obtain ⟨-, -, -, -, hc⟩ := ppuTransition_cases h
  obtain ⟨h1, h2⟩ := hq
  rcases hc with ⟨a, b, c⟩ | ⟨a, b, c⟩ | ⟨a, b, c, d⟩ | ⟨a, b, c, d⟩ | ⟨a, b, c, d⟩ | ⟨a, b, c, d⟩
  · exact ⟨by rw [c]; exact h1, fun _ => by rw [c]; exact h2 (by simp [a])⟩
  · exact ⟨by rw [c]; exact h1, fun _ => by rw [c]; exact h2 (by simp [a])⟩
  · exact ⟨by simp [d], by simp [c]⟩
  · have h3 := h2 (by simp [a])
    have h4 := byte_add_one h3 (by omega)
    have h5 : (q.1.ly + 1).toNat ≠ 144 := fun he => b (BitVec.eq_of_toNat_eq he)
    exact ⟨by rw [d]; omega, fun _ => by rw [d]; omega⟩
  · exact ⟨by simp [d], by simp [d]⟩
  · have h4 := byte_add_one h1 (by omega)
    have h5 : q.1.ly.toNat ≠ 153 := fun he => b (BitVec.eq_of_toNat_eq he)
    exact ⟨by rw [d]; omega, by simp [c]⟩

/-- The loop's last state: no transition is due any more, if the fuel covers the cycles (every transition takes at least 80). -/
theorem ppuRun_done (m : Memory) (fuel : Nat) (q : Ppu × Byte) (hf : q.1.acc < 80 * fuel) :
    (ppuRun m fuel q).1.acc < modeBudget (ppuRun m fuel q).1.mode := by
  induction fuel generalizing q with
  | zero => omega
  | succ fuel ih =>
    simp only [ppuRun]
    cases h : ppuTransition m q with
    | none =>
      unfold ppuTransition at h
      split at h
      · assumption
      · split at h <;> (try (dsimp only at h)) <;> (try split at h) <;> simp at h
    | some q' =>
      obtain ⟨h1, h2, -⟩ := ppuTransition_cases h
      have : 80 ≤ modeBudget q.1.mode := by cases q.1.mode <;> simp [modeBudget]
      exact ih q' (by omega)

/-- What every transition keeps, the loop keeps. -/
theorem ppuRun_induct (P : Ppu × Byte → Prop) (m : Memory) (hP : ∀ q q', ppuTransition m q = some q' → P q → P q')
    (fuel : Nat) (q : Ppu × Byte) (h : P q) : P (ppuRun m fuel q) := by
  induction fuel generalizing q with
  | zero => exact h
  | succ fuel ih =>
    simp only [ppuRun]
    cases ht : ppuTransition m q with
    | none => exact h
    | some q' => exact ih q' (hP q q' ht h)

/-- A tick keeps LCDC and STAT, the line counter's range, and ends below the mode's budget (R310, R303). -/
theorem ppuTick_range (m : Memory) (n : Nat) (p : Ppu) (hs : PpuShape p) (hd : p.displayOn = true) :
    PpuShape (ppuTick m n p).1 ∧ (ppuTick m n p).1.acc < modeBudget (ppuTick m n p).1.mode ∧
      (ppuTick m n p).1.lcdc = p.lcdc ∧ (ppuTick m n p).1.stat = p.stat := by
  unfold ppuTick
  rw [if_pos hd]
  refine ⟨?_, ?_, ?_⟩
  · exact ppuRun_induct (fun q => PpuShape q.1) m (fun q q' h hq => ppuTransition_shape h hq) _ _ hs
  · exact ppuRun_done m _ _ (by show p.acc + n < _; omega)
  · exact ppuRun_induct (fun q => q.1.lcdc = p.lcdc ∧ q.1.stat = p.stat) m
      (fun q q' h hq => ⟨(ppuTransition_cases h).2.2.1.trans hq.1, (ppuTransition_cases h).2.2.2.1.trans hq.2⟩) _ _ ⟨rfl, rfl⟩

/-- While the display is off a tick does nothing (R303). -/
theorem ppuTick_off (m : Memory) (n : Nat) (p : Ppu) (hd : p.displayOn = false) : ppuTick m n p = (p, 0) := by
  simp [ppuTick, hd]

/-! ### The APU -/

@[simp] theorem setCh_ch_self (a : Apu) (k : Chan) (c : Channel) : (a.setCh k c).ch k = c := by cases k <;> rfl
theorem setCh_ch_ne (a : Apu) {j k : Chan} (c : Channel) (h : j ≠ k) : (a.setCh k c).ch j = a.ch j := by
  cases k <;> cases j <;> first | rfl | exact absurd rfl h
theorem setCh_ch (a : Apu) (j k : Chan) (c : Channel) : (a.setCh k c).ch j = if j = k then c else a.ch j := by
  cases k <;> cases j <;> rfl
@[simp] theorem setCh_regs (a : Apu) (k : Chan) (c : Channel) : (a.setCh k c).regs = a.regs := by cases k <;> rfl
@[simp] theorem setCh_nr52 (a : Apu) (k : Chan) (c : Channel) : (a.setCh k c).nr52 = a.nr52 := by cases k <;> rfl
@[simp] theorem setCh_seqCounter (a : Apu) (k : Chan) (c : Channel) : (a.setCh k c).seqCounter = a.seqCounter := by
  cases k <;> rfl
@[simp] theorem setCh_seqStep (a : Apu) (k : Chan) (c : Channel) : (a.setCh k c).seqStep = a.seqStep := by cases k <;> rfl

/-! ### The three clocks of a channel: each reads and writes one channel record, by the stored registers -/

theorem lengthClock_ch_ne (a : Apu) {j k : Chan} (h : j ≠ k) : (a.lengthClock k).ch j = a.ch j := by
  unfold Apu.lengthClock; dsimp only; split
  · exact setCh_ch_ne a _ h
  · rfl
/-- Only `length` and `active` can change. -/
theorem lengthClock_keeps (a : Apu) (k : Chan) :
    ((a.lengthClock k).ch k).volume = (a.ch k).volume ∧ ((a.lengthClock k).ch k).envPeriod = (a.ch k).envPeriod ∧
    ((a.lengthClock k).ch k).envDir = (a.ch k).envDir ∧ ((a.lengthClock k).ch k).envTimer = (a.ch k).envTimer ∧
    ((a.lengthClock k).ch k).freq = (a.ch k).freq ∧ ((a.lengthClock k).ch k).restart = (a.ch k).restart ∧
    ((a.lengthClock k).ch k).freqTimer = (a.ch k).freqTimer ∧ ((a.lengthClock k).ch k).phase = (a.ch k).phase ∧
    ((a.lengthClock k).ch k).sweepTimer = (a.ch k).sweepTimer ∧ ((a.lengthClock k).ch k).lfsr = (a.ch k).lfsr := by
  unfold Apu.lengthClock; dsimp only; split <;> simp
@[simp] theorem lengthClock_regs (a : Apu) (k : Chan) : (a.lengthClock k).regs = a.regs := by
  unfold Apu.lengthClock; dsimp only; split <;> simp
theorem lengthClock_congr {a b : Apu} {k : Chan} (hr : a.regs = b.regs) (hc : a.ch k = b.ch k) :
    (a.lengthClock k).ch k = (b.lengthClock k).ch k := by
  unfold Apu.lengthClock Apu.nr Apu.reg; dsimp only; rw [hr, hc]; split <;> simp [hc]

theorem envelopeClock_ch_ne (a : Apu) {j k : Chan} (h : j ≠ k) : (a.envelopeClock k).ch j = a.ch j := by
  unfold Apu.envelopeClock; dsimp only; split
  · split <;> exact setCh_ch_ne a _ h
  · rfl
/-- Only `volume` and `envTimer` can change. -/
theorem envelopeClock_keeps (a : Apu) (k : Chan) :
    ((a.envelopeClock k).ch k).active = (a.ch k).active ∧ ((a.envelopeClock k).ch k).envPeriod = (a.ch k).envPeriod ∧
    ((a.envelopeClock k).ch k).envDir = (a.ch k).envDir ∧ ((a.envelopeClock k).ch k).length = (a.ch k).length ∧
    ((a.envelopeClock k).ch k).freq = (a.ch k).freq ∧ ((a.envelopeClock k).ch k).restart = (a.ch k).restart ∧
    ((a.envelopeClock k).ch k).freqTimer = (a.ch k).freqTimer ∧ ((a.envelopeClock k).ch k).phase = (a.ch k).phase ∧
    ((a.envelopeClock k).ch k).sweepTimer = (a.ch k).sweepTimer ∧ ((a.envelopeClock k).ch k).lfsr = (a.ch k).lfsr := by
  unfold Apu.envelopeClock; dsimp only; split
  · split <;> simp
  · simp
theorem envelopeClock_congr {a b : Apu} {k : Chan} (hc : a.ch k = b.ch k) : (a.envelopeClock k).ch k = (b.envelopeClock k).ch k := by
  unfold Apu.envelopeClock; dsimp only; rw [hc]; split
  · split <;> simp
  · exact hc

theorem sweepClock_ch_ne (a : Apu) {k : Chan} (h : k ≠ .ch0) : a.sweepClock.ch k = a.ch k := by
  unfold Apu.sweepClock; dsimp only
  repeat' split
  all_goals first | rfl | (cases k <;> first | rfl | exact absurd rfl h)
/-- Only `freq`, `active` and `sweepTimer` can change. -/
theorem sweepClock_keeps (a : Apu) :
    a.sweepClock.ch0.volume = a.ch0.volume ∧ a.sweepClock.ch0.envPeriod = a.ch0.envPeriod ∧
    a.sweepClock.ch0.envDir = a.ch0.envDir ∧ a.sweepClock.ch0.envTimer = a.ch0.envTimer ∧ a.sweepClock.ch0.length = a.ch0.length ∧
    a.sweepClock.ch0.restart = a.ch0.restart ∧ a.sweepClock.ch0.freqTimer = a.ch0.freqTimer ∧
    a.sweepClock.ch0.phase = a.ch0.phase ∧ a.sweepClock.ch0.lfsr = a.ch0.lfsr := by
  unfold Apu.sweepClock; dsimp only
  repeat' split
  all_goals simp
theorem sweepClock_congr {a b : Apu} (hr : a.regs = b.regs) (hc : a.ch0 = b.ch0) : a.sweepClock.ch0 = b.sweepClock.ch0 := by
  unfold Apu.sweepClock Apu.nr10 Apu.reg; dsimp only; rw [hr, hc]
  repeat' split
  all_goals first | rfl | exact hc

/-- The length clocks of a sequencer step, channel by channel (R370, R376). -/
theorem lengthClocks_ch (a : Apu) (k : Chan) :
    ((((a.lengthClock .ch0).lengthClock .ch1).lengthClock .ch2).lengthClock .ch3).ch k = (a.lengthClock k).ch k := by
  cases k
  · simp [lengthClock_ch_ne]
  · rw [lengthClock_ch_ne _ (by decide), lengthClock_ch_ne _ (by decide)]
    exact lengthClock_congr (by simp) (lengthClock_ch_ne _ (by decide))
  · rw [lengthClock_ch_ne _ (by decide)]
    exact lengthClock_congr (by simp) (by simp [lengthClock_ch_ne])
  · exact lengthClock_congr (by simp) (by simp [lengthClock_ch_ne])
/-- The envelope clocks of a sequencer step, channel by channel; channel 2 has none (R370, R378). -/
theorem envelopeClocks_ch (a : Apu) (k : Chan) :
    (((a.envelopeClock .ch0).envelopeClock .ch1).envelopeClock .ch3).ch k = if k = .ch2 then a.ch k else (a.envelopeClock k).ch k := by
  cases k
  · simp [envelopeClock_ch_ne]
  · rw [envelopeClock_ch_ne _ (by decide)]
    exact envelopeClock_congr (envelopeClock_ch_ne _ (by decide))
  · simp [envelopeClock_ch_ne]
  · exact envelopeClock_congr (by simp [envelopeClock_ch_ne])

end Sys2Proof.Machine.Laws
end

