-- ==== Sys2Proof/Laws/Storage.lean ====
section
/-! SUPPORT. A bus write to plain storage changes what exactly the addresses of that byte read as; a write to a blocked or disabled
region changes nothing. -/

namespace Sys2Proof.Machine.Laws

variable (s : State)

/-- A read of an address that reaches plain storage. -/
def readStorage (s : State) : Storage → Byte
  | .image n => Memory.read s.mem n
  | .cartRam n => Memory.read s.extRam n

/-- A write to plain storage. -/
def writeStorage (s : State) (v : Byte) : Storage → State
  | .image n => s.storeMem n v
  | .cartRam n => { s with extRam := Memory.write s.extRam n v }

theorem memRead_of_storageAt {a : Word} {c : Storage} (h : s.storageAt a = some c) : s.memRead a = readStorage s c := by
  unfold State.storageAt at h
  dsimp only at h
  unfold State.memRead State.busRead
  dsimp only
  split at h <;> rename_i hr <;> (try (simp at h)) <;> simp only [hr]
  · obtain ⟨hb, rfl⟩ := h; simp [hb, readStorage]
  · obtain ⟨hb, rfl⟩ := h; simp [hb, readStorage]
  · subst h; rfl
  · subst h; rfl
  · subst h; rfl
  · subst h; rfl
  · obtain ⟨hb, rfl⟩ := h; simp [hb, readStorage]
  · unfold State.readIo
    split at h <;> rename_i hi
    · obtain rfl := Option.some.inj h; simp [hi, readStorage]
    · simp at h

theorem memWrite_of_storageAt {a : Word} {c : Storage} (v : Byte) (h : s.storageAt a = some c) :
    s.memWrite a v = writeStorage s v c := by
  unfold State.storageAt at h
  dsimp only at h
  unfold State.memWrite
  dsimp only
  split at h <;> rename_i hr <;> (try (simp at h)) <;> simp only [hr]
  · obtain ⟨hb, rfl⟩ := h; simp [hb, writeStorage]
  · obtain ⟨hb, rfl⟩ := h; simp [hb, writeStorage]
  · subst h; rfl
  · subst h; rfl
  · subst h; rfl
  · subst h; rfl
  · obtain ⟨hb, rfl⟩ := h; simp [hb, writeStorage]
  · unfold State.writeIo
    split at h <;> rename_i hi
    · obtain rfl := Option.some.inj h; simp [hi, writeStorage]
    · simp at h

/-- A write to plain storage moves no byte to another address. -/
theorem storageAt_writeStorage (v : Byte) (c : Storage) (b : Word) : (writeStorage s v c).storageAt b = s.storageAt b := by
  cases c <;> rfl

/-- An address that reaches no plain storage reads the same whatever plain storage holds. -/
theorem memRead_writeStorage_none (v : Byte) (c : Storage) {b : Word} (h : s.storageAt b = none) :
    (writeStorage s v c).memRead b = s.memRead b := by
  unfold State.storageAt at h
  dsimp only at h
  unfold State.memRead State.busRead
  dsimp only
  have hv : (writeStorage s v c).videoRamBlocked = s.videoRamBlocked := by cases c <;> rfl
  have ho : (writeStorage s v c).oamBlocked = s.oamBlocked := by cases c <;> rfl
  have hr : (writeStorage s v c).ramReachable = s.ramReachable := by cases c <;> rfl
  rw [hv, ho, hr]
  split at h <;> rename_i hreg <;> (try (simp at h)) <;> simp only [hreg]
  · cases c <;> rfl
  · cases c <;> rfl
  · cases c <;> rfl
  · simp [h]
  · simp [h]
  · simp [h]
  · unfold State.readIo
    split at h <;> rename_i hi
    · simp at h
    · cases c <;> (split <;> first | rfl | (exfalso; apply hi; assumption))

theorem readStorage_writeStorage (v : Byte) (c d : Storage) :
    readStorage (writeStorage s v c) d = if d = c then v else readStorage s d := by
  cases c <;> cases d <;>
    simp [readStorage, writeStorage, State.storeMem, read_write, eq_comm]

/-- One write to plain storage: the byte reads as written wherever it is reached, every other address as before. -/
theorem memRead_memWrite_storage {a : Word} {c : Storage} (v : Byte) (h : s.storageAt a = some c) (b : Word) :
    (s.memWrite a v).memRead b = if s.storageAt b = some c then v else s.memRead b := by
  rw [memWrite_of_storageAt s v h]
  cases hb : s.storageAt b with
  | none => rw [memRead_writeStorage_none s v c hb]; simp
  | some d =>
    rw [memRead_of_storageAt _ ((storageAt_writeStorage s v c b).trans hb), memRead_of_storageAt s hb, readStorage_writeStorage]
    simp

theorem storageAt_memWrite {a : Word} {c : Storage} (v : Byte) (h : s.storageAt a = some c) (b : Word) :
    (s.memWrite a v).storageAt b = s.storageAt b := by
  rw [memWrite_of_storageAt s v h, storageAt_writeStorage]

/-- Two writes to plain storage, one after the other. -/
theorem memRead_memWrite2_storage {a1 a2 : Word} {c1 c2 : Storage} (v1 v2 : Byte) (h1 : s.storageAt a1 = some c1)
    (h2 : s.storageAt a2 = some c2) (b : Word) :
    ((s.memWrite a1 v1).memWrite a2 v2).memRead b =
      if s.storageAt b = some c2 then v2 else if s.storageAt b = some c1 then v1 else s.memRead b := by
  rw [memRead_memWrite_storage _ v2 ((storageAt_memWrite s v1 h1 a2).trans h2), storageAt_memWrite s v1 h1,
    memRead_memWrite_storage s v1 h1]

end Sys2Proof.Machine.Laws
end

