-- ==== Sys2Proof/Laws/Exec.lean ====
section
/-! SUPPORT. The shared operation each family of instructions runs, by the selectors of Sys2Proof/Decode.lean, and the frames in the
form the statements ask for. Later proofs cite these and never split on the instructions again. -/

namespace Sys2Proof.Machine.Laws

variable (s : State)

/-! ### Which operation a family runs -/

theorem exec_ldRegReg (dst src : Reg8) : exec (Instr.ldRegReg dst src) s = .next (s.loadReg dst src) := by
  cases dst <;> cases src <;> rfl
theorem exec_ldRegN (r : Reg8) (n : Byte) : exec (Instr.ldRegN r n) s = .next (s.loadRegN r n) := by cases r <;> rfl
theorem exec_ldRegIndHL (r : Reg8) : exec (Instr.ldRegIndHL r) s = .next (s.loadRegIndHL r) := by cases r <;> rfl
theorem exec_ldIndHLReg (r : Reg8) : exec (Instr.ldIndHLReg r) s = .next (s.storeIndHLReg r) := by cases r <;> rfl

/-- An address in the high page, as a sum of numbers (R121). -/
theorem highPage_eq (n : Byte) : highPage n = BitVec.ofNat 16 (0xFF00 + n.toNat) := by
  apply BitVec.eq_of_toNat_eq
  simp [highPage, zext16]
theorem exec_addrLoad (m : AddrForm) : exec m.load s = .next (s.loadA (m.addr s) m.cost) := by
  cases m <;> simp only [AddrForm.addr, ← highPage_eq] <;> rfl
theorem exec_addrStore (m : AddrForm) : exec m.store s = .next (s.storeA (m.addr s) m.cost) := by
  cases m <;> simp only [AddrForm.addr, ← highPage_eq] <;> rfl

theorem exec_ldPairNn (p : Pair) (nn : Word) : exec (Instr.ldPairNn p nn) s = .next (s.loadPairNn p nn) := by cases p <;> rfl
theorem exec_push (q : StackPair) : exec (Instr.push q) s = .next (s.pushPair q) := by cases q <;> rfl
theorem exec_pop (q : StackPair) : exec (Instr.pop q) s = .next (s.popPair q) := by cases q <;> rfl

theorem exec_alu (op : AluOp) (m : AluForm) : exec (m.instr op) s = .next (s.alu op (m.value s) m.cost) := by
  cases m with
  | reg r => cases op <;> cases r <;> rfl
  | indHL => cases op <;> rfl
  | imm n => cases op <;> rfl
theorem exec_incReg (r : Reg8) : exec (Instr.incReg r) s = .next (s.incReg r) := by cases r <;> rfl
theorem exec_decReg (r : Reg8) : exec (Instr.decReg r) s = .next (s.decReg r) := by cases r <;> rfl

theorem exec_addHLPair (p : Pair) : exec (Instr.addHLPair p) s = .next (s.addHL p) := by cases p <;> rfl
theorem exec_incPair (p : Pair) : exec (Instr.incPair p) s = .next (s.incPair p) := by cases p <;> rfl
theorem exec_decPair (p : Pair) : exec (Instr.decPair p) s = .next (s.decPair p) := by cases p <;> rfl

theorem exec_rotReg (op : RotOp) (r : Reg8) : exec (Instr.rotReg op r) s = .next (s.rotReg op r) := by
  cases op <;> cases r <;> rfl
theorem exec_rotIndHL (op : RotOp) : exec (Instr.rotIndHL op) s = .next (s.rotIndHL op) := by cases op <;> rfl
theorem exec_bitReg (b : Fin 8) (r : Reg8) : exec (Instr.bitReg b r) s = .next (s.testBitReg b r) := by
  fin_cases b <;> cases r <;> rfl
theorem exec_bitIndHL (b : Fin 8) : exec (Instr.bitIndHL b) s = .next (s.testBitIndHL b) := by fin_cases b <;> rfl
theorem exec_resReg (b : Fin 8) (r : Reg8) : exec (Instr.resReg b r) s = .next (s.clearBitReg b r) := by
  fin_cases b <;> cases r <;> rfl
theorem exec_resIndHL (b : Fin 8) : exec (Instr.resIndHL b) s = .next (s.clearBitIndHL b) := by fin_cases b <;> rfl
theorem exec_setReg (b : Fin 8) (r : Reg8) : exec (Instr.setReg b r) s = .next (s.setBitReg b r) := by
  fin_cases b <;> cases r <;> rfl
theorem exec_setIndHL (b : Fin 8) : exec (Instr.setIndHL b) s = .next (s.setBitIndHL b) := by fin_cases b <;> rfl

theorem exec_jpCond (cc : Cond) (nn : Word) : exec (Instr.jpCond cc nn) s = .next (s.jumpIf cc nn) := by cases cc <;> rfl
theorem exec_jrCond (cc : Cond) (e : Byte) : exec (Instr.jrCond cc e) s = .next (s.jumpRelIf cc e) := by cases cc <;> rfl
theorem exec_callCond (cc : Cond) (nn : Word) : exec (Instr.callCond cc nn) s = .next (s.callIf cc nn) := by cases cc <;> rfl
theorem exec_retCond (cc : Cond) : exec (Instr.retCond cc) s = .next (s.retIf cc) := by cases cc <;> rfl
theorem exec_rst (k : Fin 8) : exec (Instr.rst k) s = .next (s.rstCall k) := by fin_cases k <;> rfl

/-- `Cond(cc)` by the flags' bits (R250). -/
theorem cond_eq_holds (cc : Cond) : s.cond cc = s.holds cc := by cases cc <;> rfl

/-! ### The frames -/

/-- A state that differs in registers and cost alone. -/
theorem onlyRegs_of {s t : State} {n : Nat} (h : t = { s with regs := t.regs, ctl := { s.ctl with cost := n } }) :
    s.onlyRegs t n := by
  generalize t.regs = r at h
  subst h
  exact ⟨rfl, rfl, rfl, rfl, rfl, rfl, rfl, rfl, rfl, rfl, fun _ => rfl⟩

/-- A state that differs from a written one in registers and cost alone. -/
theorem onlyRegsAndWrite_of {s t : State} {a : Word} {v : Byte} {n : Nat}
    (h : t = { s.memWrite a v with regs := t.regs, ctl := { s.ctl with cost := n } }) : s.onlyRegsAndWrite t a v n := by
  generalize t.regs = r at h
  subst h
  have hr : (s.memWrite a v).readsLike { s.memWrite a v with regs := r, ctl := { s.ctl with cost := n } } :=
    fun b => memRead_congr _ _ b (by rw [memWrite_ctl]) rfl rfl rfl rfl rfl rfl rfl rfl rfl rfl
  exact ⟨rfl, memWrite_ime s a v, memWrite_pipe0 s a v, memWrite_pipe1 s a v, rfl, rfl, rfl, rfl, rfl, rfl, rfl, rfl,
    memWrite_plat s a v, hr, fun c hc b => (hr b).trans (memRead_memWrite_storage s v hc b)⟩

/-- The same for two writes. -/
theorem onlyRegsAndWrites_of {s t : State} {a1 a2 : Word} {v1 v2 : Byte} {n : Nat}
    (h : t = { (s.memWrite a1 v1).memWrite a2 v2 with regs := t.regs, ctl := { s.ctl with cost := n } }) :
    s.onlyRegsAndWrites t a1 v1 a2 v2 n := by
  generalize t.regs = r at h
  subst h
  have hr : ((s.memWrite a1 v1).memWrite a2 v2).readsLike
      { (s.memWrite a1 v1).memWrite a2 v2 with regs := r, ctl := { s.ctl with cost := n } } :=
    fun b => memRead_congr _ _ b (by simp) rfl rfl rfl rfl rfl rfl rfl rfl rfl rfl
  exact ⟨rfl, by simp, by simp, by simp, rfl, rfl, rfl, rfl, rfl, rfl, rfl, rfl, by simp, hr,
    fun c1 c2 h1 h2 b => (hr b).trans (memRead_memWrite2_storage s v1 v2 h1 h2 b)⟩

/-- A register update as an update of the register file. -/
theorem setReg_eq (r : Reg8) (v : Byte) : s.setReg r v = { s with regs := (s.setReg r v).regs } := by cases r <;> rfl
theorem setPair_eq (p : Pair) (v : Word) : s.setPair p v = { s with regs := (s.setPair p v).regs } := by cases p <;> rfl
theorem setStackPair_eq (q : StackPair) (v : Word) : s.setStackPair q v = { s with regs := (s.setStackPair q v).regs } := by
  cases q <;> rfl

/-! ### What the shared ALU operations leave -/

@[simp] theorem alu_a (op : AluOp) (v : Byte) (n : Nat) : (s.alu op v n).regs.a = (aluOut op s.regs.a v s.regs.f).res := rfl
@[simp] theorem alu_f (op : AluOp) (v : Byte) (n : Nat) :
    (s.alu op v n).regs.f = maskFlags (aluOut op s.regs.a v s.regs.f).flags := rfl
theorem alu_reg_ne (op : AluOp) (v : Byte) (n : Nat) {r : Reg8} (h : r ≠ .a) : (s.alu op v n).reg r = s.reg r := by
  cases r <;> first | rfl | exact absurd rfl h

/-- Flags written from four values are those four values (R12). -/
theorem flagsAre_of {t : State} {z n h c : Bool} (hf : t.regs.f = maskFlags (mkFlags z n h c)) : t.flagsAre z n h c := by
  unfold State.flagsAre
  rw [hf, maskFlags_mkFlags]
  cases z <;> cases n <;> cases h <;> cases c <;> decide

/-- A signed displacement added to a word, on integers (R92). -/
theorem add_sext16 (w : Word) (e : Byte) : w + sext16 e = BitVec.ofInt 16 ((w.toNat : Int) + e.toInt) := by
  apply BitVec.eq_of_toInt_eq
  rw [BitVec.toInt_ofInt, BitVec.toInt_add, sext16, BitVec.toInt_signExtend_of_le (by decide), BitVec.toInt_eq_toNat_bmod]
  simp

/-- AF as POP AF leaves it: bits 3:0 of the popped word are gone (R145). -/
theorem mkWord_maskFlags (v : Word) : mkWord (hiByte v) (maskFlags (loByte v)) = v &&& 0xFFF0 := by
  apply BitVec.eq_of_getLsbD_eq
  intro i hi
  rw [getLsbD_mkWord]
  unfold hiByte loByte maskFlags
  interval_cases i <;> simp

/-! ### The bus does not look at registers -/

theorem dma_fold_withRegs (r : Regs) (page : Byte) (l : List Nat) : ∀ s : State,
    l.foldl (State.dmaByte page) { s with regs := r } = { l.foldl (State.dmaByte page) s with regs := r } := by
  induction l with
  | nil => intro s; rfl
  | cons i l ih => intro s; exact ih (State.dmaByte page s i)

/-- A bus write is the same whatever the registers hold, and leaves them. -/
theorem memWrite_withRegs (r : Regs) (a : Word) (v : Byte) :
    State.memWrite { s with regs := r } a v = { s.memWrite a v with regs := r } := by
  unfold State.memWrite
  dsimp only
  have hv : State.videoRamBlocked { s with regs := r } = s.videoRamBlocked := rfl
  have ho : State.oamBlocked { s with regs := r } = s.oamBlocked := rfl
  have hx : State.ramReachable { s with regs := r } = s.ramReachable := rfl
  rw [hv, ho, hx]
  split
  · unfold State.bankCommand; dsimp only; split <;> (try split) <;> (try split) <;> rfl
  · unfold State.bankCommand; dsimp only; split <;> (try split) <;> (try split) <;> rfl
  · split <;> rfl
  · split <;> rfl
  · rfl
  · rfl
  · split <;> rfl
  · rfl
  · unfold State.writeIo
    split
    case h_15 => exact dma_fold_withRegs r v (List.range 160) { s with ppu := { s.ppu with dma := v } }
    all_goals rfl
  · rfl
  · rfl

/-- A push is a write at SP-1 and a write at SP-2, and SP two lower (R148). -/
theorem push16_eq (v : Word) : s.push16 v =
    { (s.memWrite (s.regs.sp - 1) (hiByte v)).memWrite (s.regs.sp - 2) (loByte v) with
      regs := { s.regs with sp := s.regs.sp - 2 } } := by
  have h2 : s.regs.sp - 1 - 1 = s.regs.sp - 2 := by bv_omega
  simp only [State.push16, State.setSP, memWrite_withRegs, h2]

end Sys2Proof.Machine.Laws
end

