-- ==== Sys2Proof/Laws/Invariant.lean ====
section
/-! SUPPORT. What each shared operation keeps of the invariant. `Steady` is the invariant without the shape of the global-enable
pipeline, which holds only between steps. -/

namespace Sys2Proof.Machine.Laws

/-- The invariant's parts that hold inside a step as well. -/
structure Steady (s : State) : Prop where
  flags : s.flagsClean
  memory : s.memoryCanonical
  stored : s.storedBitsClean
  timers : s.timer.inRange
  bank : s.bank.inRange
  ppu : s.ppu.inRange
  apu : s.apu.inRange
  boot : s.bootShape

theorem Steady.of_inv {s : State} (h : s.Inv) : Steady s :=
  ⟨h.flags, h.memory, h.stored, h.timers, h.bank, h.ppu, h.apu, h.boot⟩

/-! ### The sound unit -/

theorem Apu.inRange_setCh {a : Apu} {k : Chan} {c : Channel} (ha : a.inRange) (hc : Channel.inRange k c) :
    (a.setCh k c).inRange := by
  refine ⟨by simpa using ha.1, by simpa using ha.2.1, fun j => ?_⟩
  rw [setCh_ch]
  split
  · rename_i h; subst h; exact hc
  · exact ha.2.2 j

theorem Apu.inRange_trigger {a : Apu} (h : a.inRange) (k : Chan) : (a.trigger k).inRange :=
  Apu.inRange_setCh h (h.2.2 k)
theorem Apu.inRange_loadLength {a : Apu} (h : a.inRange) (k : Chan) (v : Byte) : (a.loadLength k v).inRange := by
  refine Apu.inRange_setCh h ⟨?_, (h.2.2 k).2⟩
  dsimp only
  split <;> omega
theorem Apu.inRange_writeFreqLow {a : Apu} (h : a.inRange) (k : Chan) (v : Byte) : (a.writeFreqLow k v).inRange :=
  Apu.inRange_setCh h (h.2.2 k)
theorem Apu.inRange_writeControl {a : Apu} (h : a.inRange) (k : Chan) (v : Byte) : (a.writeControl k v).inRange := by
  have h1 : (a.setCh k { a.ch k with freq := v.extractLsb' 0 3 ++ (a.ch k).freq.extractLsb' 0 8 }).inRange :=
    Apu.inRange_setCh h (h.2.2 k)
  unfold Apu.writeControl
  dsimp only
  split
  · exact Apu.inRange_trigger h1 k
  · exact h1
theorem Apu.inRange_registerEffect {a : Apu} (h : a.inRange) (i : Nat) (v : Byte) : (a.registerEffect i v).inRange := by
  unfold Apu.registerEffect
  split <;> first
    | exact Apu.inRange_loadLength h _ v | exact Apu.inRange_writeFreqLow h _ v | exact Apu.inRange_writeControl h _ v
    | skip
  · split
    · exact Apu.inRange_trigger h _
    · exact h
  · exact h
theorem Apu.inRange_writeReg {a : Apu} (h : a.inRange) (i : Nat) (v : Byte) : (a.writeReg i v).inRange := by
  unfold Apu.writeReg
  split
  · exact Apu.inRange_registerEffect (a := { a with regs := a.regs.setIfInBounds i v }) ⟨h.1, h.2.1, fun k => h.2.2 k⟩ i v
  · exact h
theorem Apu.inRange_writeNr52 {a : Apu} (h : a.inRange) (v : Byte) : (a.writeNr52 v).inRange := by
  unfold Apu.writeNr52
  dsimp only
  split
  · refine ⟨h.1, h.2.1, fun k => ?_⟩
    have := h.2.2 k
    cases k <;> exact this
  · split
    · exact ⟨Nat.zero_lt_succ _, Nat.zero_lt_succ _, fun k => h.2.2 k⟩
    · exact ⟨h.1, h.2.1, fun k => h.2.2 k⟩
theorem Apu.inRange_restart {a : Apu} (h : a.inRange) (r : BitVec 15) (k : Chan) : (a.restartIfPending r k).inRange := by
  unfold Apu.restartIfPending
  split
  · obtain ⟨h1, h2, h3, h4⟩ := h.2.2 k
    refine Apu.inRange_setCh h ⟨?_, ?_, ?_, ?_⟩ <;> dsimp only
    · split
      · exact le_refl _
      · exact h1
    · split
      · exact h2
      · split <;> omega
    · split <;> omega
    · split <;> omega
  · exact h
theorem Apu.inRange_lengthClock {a : Apu} (h : a.inRange) (k : Chan) : (a.lengthClock k).inRange := by
  unfold Apu.lengthClock
  dsimp only
  split
  · obtain ⟨h1, h2, h3, h4⟩ := h.2.2 k
    refine Apu.inRange_setCh h ⟨?_, h2, h3, h4⟩
    dsimp only
    omega
  · exact h
theorem Apu.inRange_envelopeClock {a : Apu} (h : a.inRange) (k : Chan) : (a.envelopeClock k).inRange := by
  unfold Apu.envelopeClock
  dsimp only
  obtain ⟨h1, h2, h3, h4⟩ := h.2.2 k
  split
  · split
    · exact Apu.inRange_setCh h ⟨h1, h2, by simp, h4⟩
    · have := (a.ch k).envPeriod.isLt
      exact Apu.inRange_setCh h ⟨h1, h2, by dsimp only; omega, h4⟩
  · exact h
theorem Apu.inRange_ch0 {a : Apu} {c : Channel} (ha : a.inRange) (hc : Channel.inRange .ch0 c) : ({ a with ch0 := c } : Apu).inRange :=
  Apu.inRange_setCh (k := .ch0) ha hc
theorem Apu.inRange_sweepClock {a : Apu} (h : a.inRange) : a.sweepClock.inRange := by
  unfold Apu.sweepClock
  dsimp only
  obtain ⟨h1, h2, h3, h4⟩ : Channel.inRange .ch0 a.ch0 := h.2.2 .ch0
  have hp := (a.nr10.extractLsb' 4 3).isLt
  split
  · split
    · split_ifs <;> exact Apu.inRange_ch0 h ⟨h1, h2, h3, Nat.zero_le _⟩
    · exact Apu.inRange_ch0 h ⟨h1, h2, h3, by dsimp only; omega⟩
  · exact h
theorem Apu.inRange_seqStepClock {a : Apu} (h : a.inRange) : a.seqStepClock.inRange := by
  unfold Apu.seqStepClock
  extract_lets a1 a2 a3
  have g1 : a1.inRange := by
    unfold a1; split
    · exact Apu.inRange_lengthClock (Apu.inRange_lengthClock (Apu.inRange_lengthClock (Apu.inRange_lengthClock h _) _) _) _
    · exact h
  have g2 : a2.inRange := by
    unfold a2; split
    · exact Apu.inRange_sweepClock g1
    · exact g1
  have g3 : a3.inRange := by
    unfold a3; split
    · exact Apu.inRange_envelopeClock (Apu.inRange_envelopeClock (Apu.inRange_envelopeClock g2 _) _) _
    · exact g2
  exact ⟨g3.1, Nat.mod_lt _ (by decide), fun k => g3.2.2 k⟩
theorem waveStep_inRange (a : Apu) (k : Chan) (c : Channel) (h : Channel.inRange k c) : Channel.inRange k (a.waveStep k c) := by
  obtain ⟨h1, h2, h3, h4⟩ := h
  cases k <;> refine ⟨h1, ?_, h3, h4⟩ <;> simp [Apu.waveStep] at * <;> omega
theorem Apu.inRange_channelTick {a : Apu} (h : a.inRange) (n : Nat) (k : Chan) : (a.channelTick n k).inRange := by
  unfold Apu.channelTick
  dsimp only
  split
  · exact Apu.inRange_setCh h (repeatN_induct (Channel.inRange k) _ (waveStep_inRange a k) _ _ (h.2.2 k))
  · exact h
theorem Apu.inRange_tick {a : Apu} (h : a.inRange) (r : BitVec 15) (n : Nat) : (apuTick r n a).inRange := by
  unfold apuTick
  split
  · dsimp only [List.foldl]
    refine Apu.inRange_channelTick (Apu.inRange_channelTick (Apu.inRange_channelTick (Apu.inRange_channelTick ?_ _ _) _ _) _ _) _ _
    have g := Apu.inRange_restart (Apu.inRange_restart (Apu.inRange_restart (Apu.inRange_restart h r .ch0) r .ch1) r .ch2) r .ch3
    refine repeatN_induct Apu.inRange _ (fun x hx => Apu.inRange_seqStepClock hx) _ _ ⟨Nat.mod_lt _ (by decide), g.2.1, fun k => ?_⟩
    exact g.2.2 k
  · exact h

/-! ### NR52's stored bits: only a write to NR52 changes them -/

theorem nr52_registerEffect (a : Apu) (i : Nat) (v : Byte) : (a.registerEffect i v).nr52 = a.nr52 := by
  unfold Apu.registerEffect
  split <;> (try split) <;> simp [Apu.loadLength, Apu.writeFreqLow, Apu.writeControl, Apu.trigger] <;> split <;> simp
theorem nr52_writeReg (a : Apu) (i : Nat) (v : Byte) : (a.writeReg i v).nr52 = a.nr52 := by
  unfold Apu.writeReg
  split
  · rw [nr52_registerEffect]
  · rfl
theorem nr52_writeNr52 (a : Apu) (v : Byte) : (a.writeNr52 v).nr52 = v &&& 0xF0 := by
  unfold Apu.writeNr52
  dsimp only
  split
  · rfl
  · split <;> rfl
theorem nr52_seqStepClock (a : Apu) : a.seqStepClock.nr52 = a.nr52 := by
  have hl : ∀ (a : Apu) k, (a.lengthClock k).nr52 = a.nr52 := by
    intro a k; unfold Apu.lengthClock; dsimp only; split <;> simp
  have he : ∀ (a : Apu) k, (a.envelopeClock k).nr52 = a.nr52 := by
    intro a k; unfold Apu.envelopeClock; dsimp only; split <;> (try split) <;> simp
  have hs : ∀ a : Apu, a.sweepClock.nr52 = a.nr52 := by
    intro a; unfold Apu.sweepClock; dsimp only; split_ifs <;> rfl
  unfold Apu.seqStepClock
  dsimp only
  split <;> split <;> split <;> simp [hl, he, hs]
theorem nr52_tick (r : BitVec 15) (n : Nat) (a : Apu) : (apuTick r n a).nr52 = a.nr52 := by
  have hr : ∀ (a : Apu) k, (a.restartIfPending r k).nr52 = a.nr52 := by
    intro a k; unfold Apu.restartIfPending Apu.restartChannel; split <;> simp
  have hc : ∀ (a : Apu) k, (a.channelTick n k).nr52 = a.nr52 := by
    intro a k; unfold Apu.channelTick; dsimp only; split <;> simp
  unfold apuTick
  split
  · simp only [List.foldl, hc]
    unfold Apu.sequencerTick
    dsimp only
    refine (repeatN_induct (fun x : Apu => x.nr52 = a.nr52) _ (fun x hx => (nr52_seqStepClock x).trans hx) _ _ ?_)
    simp [hr]
  · rfl

/-! ### The PPU's registers -/

theorem Ppu.inRange_writeLcdc {p : Ppu} (h : p.inRange) (v : Byte) : (p.writeLcdc v).inRange := by
  obtain ⟨h1, h2, h3, h4⟩ := h
  unfold Ppu.writeLcdc
  dsimp only
  split
  · exact ⟨by simp, by simp, by simp [modeBudget], fun _ => ⟨rfl, rfl, rfl⟩⟩
  · split
    · rename_i hn hv
      simp only [Bool.and_eq_true, Bool.not_eq_true'] at hv
      refine ⟨by simp, by simp, by simp [modeBudget], fun hd => ?_⟩
      unfold Ppu.displayOn at hd
      dsimp only at hd
      exact absurd (hv.2.symm.trans hd) (by decide)
    · rename_i hn hv
      refine ⟨h1, h2, h3, fun hd => h4 ?_⟩
      simp only [Bool.and_eq_true, Bool.not_eq_true', not_and, Bool.not_eq_false] at hn hv
      unfold Ppu.displayOn at hd ⊢
      dsimp only at hd
      cases hp : p.lcdc.getLsbD 7
      · rfl
      · exact absurd ((hn hp).symm.trans hd) (by decide)

/-! ### Bus writes -/

theorem Bank.inRange_select {k : Bank} (n : Nat) (v : Byte) : (k.select n v).inRange := by
  have hb : ∀ x : Nat, x ≤ 31 → 1 ≤ (if x = 0 then 1 else x) ∧ (if x = 0 then 1 else x) ≤ 31 := by
    intro x hx; split <;> omega
  have hv : v.toNat % 32 ≤ 31 := Nat.lt_succ_iff.mp (Nat.mod_lt _ (by decide))
  unfold Bank.select
  dsimp only
  have h2 := hb _ hv
  generalize (if v.toNat % 32 = 0 then 1 else v.toNat % 32) = b at h2 ⊢
  split
  · exact h2
  · exact hb _ ((Nat.mod_le _ _).trans h2.2)

theorem Steady.storeMem {s : State} (h : Steady s) (n : Nat) (v : Byte) : Steady (s.storeMem n v) :=
  ⟨h.flags, ⟨wf_write h.memory.1 n v, h.memory.2⟩, h.stored, h.timers, h.bank, h.ppu, h.apu, h.boot⟩

theorem Steady.dma {s : State} (h : Steady s) (page : Byte) : Steady (s.dma page) := by
  have hf : ∀ (l : List Nat) (s : State), Steady s → Steady (l.foldl (State.dmaByte page) s) := by
    intro l
    induction l with
    | nil => intro s h; exact h
    | cons i l ih => intro s h; exact ih _ (h.storeMem _ _)
  refine hf _ _ ⟨h.flags, h.memory, h.stored, h.timers, h.bank, ?_, h.apu, h.boot⟩
  exact h.ppu

theorem Steady.withPpu {s : State} (h : Steady s) {p : Ppu} (hp : p.inRange) (hs : p.stat &&& 0x07 = 0) :
    Steady { s with ppu := p } :=
  ⟨h.flags, h.memory, ⟨hs, h.stored.2⟩, h.timers, h.bank, hp, h.apu, h.boot⟩

theorem Steady.withApu {s : State} (h : Steady s) {a : Apu} (ha : a.inRange) (hs : a.nr52 &&& 0x0F = 0) :
    Steady { s with apu := a } :=
  ⟨h.flags, h.memory, ⟨h.stored.1, h.stored.2.1, hs⟩, h.timers, h.bank, h.ppu, ha, h.boot⟩

theorem Steady.withTimer {s : State} (h : Steady s) {t : Timer} (ht : t.inRange) : Steady { s with timer := t } :=
  ⟨h.flags, h.memory, h.stored, ht, h.bank, h.ppu, h.apu, h.boot⟩

theorem Steady.withIrq {s : State} (h : Steady s) (i : Irq) : Steady { s with irq := i } :=
  ⟨h.flags, h.memory, h.stored, h.timers, h.bank, h.ppu, h.apu, h.boot⟩

theorem stat_writeLcdc (p : Ppu) (v : Byte) : (p.writeLcdc v).stat = p.stat := by
  unfold Ppu.writeLcdc; dsimp only; split <;> (try split) <;> rfl

theorem mask_complement (v m n : Byte) (h : m &&& n = 0) : v &&& m &&& n = 0 := by rw [BitVec.and_assoc, h]; simp

theorem Steady.writeIo {s : State} (h : Steady s) (n : Nat) (v : Byte) : Steady (s.writeIo n v) := by
  unfold State.writeIo
  split
  · exact ⟨h.flags, h.memory, ⟨h.stored.1, mask_complement v _ _ (by decide), h.stored.2.2⟩, h.timers, h.bank, h.ppu, h.apu, h.boot⟩
  · exact h.withTimer ⟨by simp [Timer.writeDiv], h.timers.2⟩
  · exact h.withTimer h.timers
  · exact h.withTimer h.timers
  · exact h.withTimer h.timers
  · exact h.withIrq _
  · exact h.withApu (Apu.inRange_writeReg h.apu _ v) (by rw [nr52_writeReg]; exact h.stored.2.2)
  · exact h.withApu (Apu.inRange_writeNr52 h.apu v) (by rw [nr52_writeNr52]; exact mask_complement v _ _ (by decide))
  · exact h.withPpu (Ppu.inRange_writeLcdc h.ppu v) (by rw [stat_writeLcdc]; exact h.stored.1)
  · exact h.withPpu h.ppu (mask_complement v _ _ (by decide))
  · exact h.withPpu h.ppu h.stored.1
  · exact h.withPpu h.ppu h.stored.1
  · refine h.withPpu ⟨by simp, by simp, h.ppu.2.2.1, fun hd => ?_⟩ h.stored.1
    have := h.ppu.2.2.2 hd
    exact ⟨this.1, rfl, this.2.2⟩
  · exact h.withPpu h.ppu h.stored.1
  · exact h.dma v
  · exact h.withPpu h.ppu h.stored.1
  · exact h.withPpu h.ppu h.stored.1
  · exact h.withPpu h.ppu h.stored.1
  · exact h.withPpu h.ppu h.stored.1
  · exact h.withPpu h.ppu h.stored.1
  · exact h.storeMem n v

theorem Steady.bankCommand {s : State} (h : Steady s) (n : Nat) (v : Byte) : Steady (s.bankCommand n v) := by
  unfold State.bankCommand
  split
  · exact h
  · split
    · exact ⟨h.flags, h.memory, h.stored, h.timers, h.bank, h.ppu, h.apu, h.boot⟩
    · split
      · exact ⟨h.flags, h.memory, h.stored, h.timers, Bank.inRange_select _ v, h.ppu, h.apu, h.boot⟩
      · exact h

/-- A bus write keeps the invariant. -/
theorem Steady.memWrite {s : State} (h : Steady s) (a : Word) (v : Byte) : Steady (s.memWrite a v) := by
  unfold State.memWrite
  dsimp only
  split
  · exact h.bankCommand _ v
  · exact h.bankCommand _ v
  · split
    · exact h
    · exact h.storeMem _ v
  · split
    · exact ⟨h.flags, ⟨h.memory.1, wf_write h.memory.2.1 _ v, h.memory.2.2⟩, h.stored, h.timers, h.bank, h.ppu, h.apu, h.boot⟩
    · exact h
  · exact h.storeMem _ v
  · exact h.storeMem _ v
  · split
    · exact h
    · exact h.storeMem _ v
  · exact h.storeMem _ v
  · exact h.writeIo _ v
  · exact h.storeMem _ v
  · exact h.withIrq _

/-! ### Registers, run state -/

theorem Steady.setReg {s : State} (h : Steady s) (r : Reg8) (v : Byte) : Steady (s.setReg r v) := by
  obtain ⟨h1, h2, h3, h4, h5, h6, h7, h8⟩ := h
  exact ⟨by simpa [State.flagsClean] using h1, by simpa [State.memoryCanonical] using h2,
    by simpa [State.storedBitsClean] using h3, by simpa using h4, by simpa using h5, by simpa using h6, by simpa using h7,
    by simpa [State.bootShape] using h8⟩
theorem Steady.setF {s : State} (h : Steady s) (v : Byte) : Steady (s.setF v) :=
  ⟨maskFlags_low v, h.memory, h.stored, h.timers, h.bank, h.ppu, h.apu, h.boot⟩
theorem Steady.setSP {s : State} (h : Steady s) (v : Word) : Steady (s.setSP v) :=
  ⟨h.flags, h.memory, h.stored, h.timers, h.bank, h.ppu, h.apu, h.boot⟩
theorem Steady.setPC {s : State} (h : Steady s) (v : Word) : Steady (s.setPC v) :=
  ⟨h.flags, h.memory, h.stored, h.timers, h.bank, h.ppu, h.apu, h.boot⟩
theorem Steady.setCost {s : State} (h : Steady s) (n : Nat) : Steady (s.setCost n) :=
  ⟨h.flags, h.memory, h.stored, h.timers, h.bank, h.ppu, h.apu, h.boot⟩
theorem Steady.setHL {s : State} (h : Steady s) (v : Word) : Steady (s.setHL v) := (h.setReg _ _).setReg _ _
theorem Steady.setPair {s : State} (h : Steady s) (p : Pair) (v : Word) : Steady (s.setPair p v) := by
  cases p with
  | bc => exact (h.setReg .b (hiByte v)).setReg .c (loByte v)
  | de => exact (h.setReg .d (hiByte v)).setReg .e (loByte v)
  | hl => exact h.setHL v
  | sp => exact h.setSP v
theorem Steady.setStackPair {s : State} (h : Steady s) (q : StackPair) (v : Word) : Steady (s.setStackPair q v) := by
  cases q with
  | bc => exact h.setPair .bc v
  | de => exact h.setPair .de v
  | hl => exact h.setPair .hl v
  | af => exact (h.setReg .a (hiByte v)).setF (loByte v)
theorem Steady.requestIme {s : State} (h : Steady s) (v : Bool) : Steady (s.requestIme v) := h.withIrq _
theorem Steady.raiseIF {s : State} (h : Steady s) (v : Byte) : Steady (s.raiseIF v) := h.withIrq _
/-- A change of the run state that maps no boot image keeps the invariant. -/
theorem Steady.withCtl {s : State} (h : Steady s) {c : Control} (hc : c.bootMapped = true → s.ctl.bootMapped = true) :
    Steady { s with ctl := c } :=
  ⟨h.flags, h.memory, h.stored, h.timers, h.bank, h.ppu, h.apu, fun hb => h.boot (hc hb)⟩

/-! ### The stack, ticks, dispatch, the end of a step -/

theorem Steady.push16 {s : State} (h : Steady s) (v : Word) : Steady (s.push16 v) :=
  (((h.setSP _).memWrite _ _).setSP _).memWrite _ _

theorem Steady.tick {s : State} (h : Steady s) (n : Nat) : Steady (State.tick n s) := by
  have h1 : Steady (State.tickClock n s) := h.withCtl fun hb => hb
  have h2 : Steady (State.tickTimer n (State.tickClock n s)) := by
    have ht := timerTick_range n (State.tickClock n s).timer h1.timers.2
    exact (h1.withTimer ⟨ht.1, ht.2.1⟩).raiseIF _
  have h3 : Steady (State.tickPpu n (State.tickTimer n (State.tickClock n s))) := by
    generalize State.tickTimer n (State.tickClock n s) = u at h2
    unfold State.tickPpu
    dsimp only
    refine Steady.raiseIF ?_ _
    obtain ⟨p1, p2, p3, p4⟩ := h2.ppu
    cases hd : u.ppu.displayOn with
    | false => rw [ppuTick_off _ _ _ hd]; exact h2
    | true =>
      obtain ⟨g1, g2, g3, g4⟩ := ppuTick_range u.mem n u.ppu ⟨p1, p2⟩ hd
      refine h2.withPpu ⟨g1.1, g1.2, g2, fun hf => ?_⟩ (by rw [g4]; exact h2.stored.1)
      unfold Ppu.displayOn at hf hd
      rw [g3] at hf
      exact absurd (hd.symm.trans hf) (by decide)
  exact h3.withApu (Apu.inRange_tick h3.apu _ n) (by rw [nr52_tick]; exact h3.stored.2.2)

theorem Steady.imeAdvance {s : State} (h : Steady s) : Steady s.imeAdvance := h.withIrq _

theorem Steady.dispatch {s : State} (h : Steady s) (i : Source) : Steady (s.dispatch i) :=
  (((h.withIrq _).push16 _).setPC _).tick _

theorem Steady.interruptCheck {s : State} (h : Steady s) : Steady s.interruptCheck := by
  unfold State.interruptCheck
  split
  · exact h
  · dsimp only
    have h1 : Steady { s with ctl := { s.ctl with halted := false } } := h.withCtl fun hb => hb
    split
    · exact h1.dispatch _
    · exact h1

/-- Phases 3 to 5 of a step keep the invariant. -/
theorem Steady.finishStep {s : State} (h : Steady s) : Steady s.finishStep := (h.imeAdvance.tick _).interruptCheck

/-! ### The global-enable pipeline at the end of a step -/

@[simp] theorem push16_ctl (s : State) (v : Word) : (s.push16 v).ctl = s.ctl := by simp [State.push16]
@[simp] theorem push16_pipe0 (s : State) (v : Word) : (s.push16 v).irq.pipe0 = s.irq.pipe0 := by simp [State.push16]
@[simp] theorem push16_pipe1 (s : State) (v : Word) : (s.push16 v).irq.pipe1 = s.irq.pipe1 := by simp [State.push16]
@[simp] theorem push16_ime (s : State) (v : Word) : (s.push16 v).irq.ime = s.irq.ime := by simp [State.push16]
@[simp] theorem push16_sp (s : State) (v : Word) : (s.push16 v).regs.sp = s.regs.sp - 2 := by
  simp only [State.push16, memWrite_regs, setSP_regs_sp]
  bv_omega
@[simp] theorem push16_pc (s : State) (v : Word) : (s.push16 v).regs.pc = s.regs.pc := by simp [State.push16]
@[simp] theorem push16_f (s : State) (v : Word) : (s.push16 v).regs.f = s.regs.f := by simp [State.push16]
@[simp] theorem push16_reg (s : State) (v : Word) (r : Reg8) : (s.push16 v).reg r = s.reg r := by simp [State.push16]
@[simp] theorem push16_plat (s : State) (v : Word) : (s.push16 v).plat = s.plat := by simp [State.push16]

/-- A tick changes the cycle clock, the devices and IF only. -/
theorem tick_frame (s : State) (n : Nat) :
    (State.tick n s).regs = s.regs ∧ (State.tick n s).irq.ime = s.irq.ime ∧ (State.tick n s).irq.pipe0 = s.irq.pipe0 ∧
      (State.tick n s).irq.pipe1 = s.irq.pipe1 ∧ (State.tick n s).irq.enable = s.irq.enable ∧
      (State.tick n s).ctl = { s.ctl with cycleClock := s.ctl.cycleClock + n } ∧ (State.tick n s).mem = s.mem ∧
      (State.tick n s).extRam = s.extRam ∧ (State.tick n s).bank = s.bank ∧ (State.tick n s).p1 = s.p1 ∧
      (State.tick n s).plat = s.plat :=
  ⟨rfl, rfl, rfl, rfl, rfl, rfl, rfl, rfl, rfl, rfl, rfl⟩

/-- After phases 3 to 5 the second slot of the pipeline is empty and the first holds what the instruction requested; the CPU is
halted only if it was. -/
theorem finishStep_pipeline (s : State) :
    s.finishStep.irq.pipe1 = none ∧ s.finishStep.irq.pipe0 = s.irq.pipe1 ∧
      (s.finishStep.ctl.halted = true → s.ctl.halted = true) := by
  unfold State.finishStep State.interruptCheck
  split
  · exact ⟨rfl, rfl, fun h => h⟩
  · dsimp only
    split
    · refine ⟨?_, ?_, ?_⟩
      · unfold State.dispatch; rw [(tick_frame _ _).2.2.2.1]; simp [State.tick, State.imeAdvance, State.tickApu, State.tickPpu, State.tickTimer, State.tickClock]
      · unfold State.dispatch; rw [(tick_frame _ _).2.2.1]; simp [State.tick, State.imeAdvance, State.tickApu, State.tickPpu, State.tickTimer, State.tickClock]
      · unfold State.dispatch; rw [(tick_frame _ _).2.2.2.2.2.1]; simp
    · exact ⟨rfl, rfl, fun h => by simp at h⟩

end Sys2Proof.Machine.Laws
end

