-- ==== Sys2Proof/Laws/Step.lean ====
section
/-! SUPPORT. Everything an instruction and a step can do beside its own effect, said once (`Ran`, `exec_ran`, `step_cases`); later
proofs cite these and never split on the instructions again. -/

namespace Sys2Proof.Machine.Laws

/-- What running one instruction keeps: the global enable and the first slot of its pipeline, the platform and the cycle clock; it
either answers with one of the costs of R98 and leaves the fault field, or it raises the fault and leaves the interrupt state; it
keeps the invariant, and it does not both halt the CPU and request the global enable. -/
structure Ran (s t : State) : Prop where
  ime : t.irq.ime = s.irq.ime
  pipe0 : t.irq.pipe0 = s.irq.pipe0
  plat : t.plat = s.plat
  clock : t.ctl.cycleClock = s.ctl.cycleClock
  request : t.ctl.halted = s.ctl.halted ∨ t.irq.pipe1 = s.irq.pipe1
  outcome : (t.ctl.fault = s.ctl.fault ∧ t.ctl.cost ∈ [4, 8, 12, 16, 20, 24]) ∨
    (t.ctl.fault.isSome = true ∧ t.irq = s.irq ∧ t.ctl.halted = s.ctl.halted)
  steady : Steady s → Steady t

/-- An effect on anything but the run state, the global enable and the platform, followed by its cost. -/
theorem Ran.of_cost {s u : State} {n : Nat} (hn : n ∈ [4, 8, 12, 16, 20, 24]) (hc : u.ctl = s.ctl)
    (hi : u.irq.ime = s.irq.ime) (h0 : u.irq.pipe0 = s.irq.pipe0) (hp : u.plat = s.plat) (hs : Steady s → Steady u) :
    Ran s (u.setCost n) :=
  ⟨hi, h0, hp, show u.ctl.cycleClock = _ by rw [hc], .inl (show u.ctl.halted = _ by rw [hc]),
    .inl ⟨show u.ctl.fault = _ by rw [hc], hn⟩,
    fun h => (hs h).setCost n⟩

variable (s : State)

theorem ran_loadReg (dst src : Reg8) : Ran s (s.loadReg dst src) :=
  .of_cost (by decide) (by simp) (by simp) (by simp) (by simp) fun h => h.setReg _ _
theorem ran_loadRegN (r : Reg8) (n : Byte) : Ran s (s.loadRegN r n) :=
  .of_cost (by decide) (by simp) (by simp) (by simp) (by simp) fun h => h.setReg _ _
theorem ran_loadRegIndHL (r : Reg8) : Ran s (s.loadRegIndHL r) :=
  .of_cost (by decide) (by simp) (by simp) (by simp) (by simp) fun h => h.setReg _ _
theorem ran_storeIndHLReg (r : Reg8) : Ran s (s.storeIndHLReg r) :=
  .of_cost (by decide) (by simp) (by simp) (by simp) (by simp) fun h => h.memWrite _ _
theorem ran_storeIndHLN (n : Byte) : Ran s (s.storeIndHLN n) :=
  .of_cost (by decide) (by simp) (by simp) (by simp) (by simp) fun h => h.memWrite _ _
theorem ran_loadA (a : Word) {n : Nat} (hn : n ∈ [4, 8, 12, 16, 20, 24]) : Ran s (s.loadA a n) :=
  .of_cost hn (by simp) (by simp) (by simp) (by simp) fun h => h.setReg _ _
theorem ran_storeA (a : Word) {n : Nat} (hn : n ∈ [4, 8, 12, 16, 20, 24]) : Ran s (s.storeA a n) :=
  .of_cost hn (by simp) (by simp) (by simp) (by simp) fun h => h.memWrite _ _
theorem ran_loadAMoveHL (d : Word) : Ran s (s.loadAMoveHL d) :=
  .of_cost (by decide) (by simp) (by simp) (by simp) (by simp) fun h => (h.setReg _ _).setHL _
theorem ran_storeAMoveHL (d : Word) : Ran s (s.storeAMoveHL d) :=
  .of_cost (by decide) (by simp) (by simp) (by simp) (by simp) fun h => (h.memWrite _ _).setHL _

theorem ran_loadPairNn (p : Pair) (nn : Word) : Ran s (s.loadPairNn p nn) :=
  .of_cost (by decide) (by simp) (by simp) (by simp) (by simp) fun h => h.setPair _ _
theorem ran_storeSP (nn : Word) : Ran s (s.storeSP nn) :=
  .of_cost (by decide) (by simp) (by simp) (by simp) (by simp) fun h => (h.memWrite _ _).memWrite _ _
theorem ran_loadSPHL : Ran s s.loadSPHL :=
  .of_cost (by decide) (by simp) (by simp) (by simp) (by simp) fun h => h.setSP _
theorem ran_loadHLSPE (e : Byte) : Ran s (s.loadHLSPE e) :=
  .of_cost (by decide) (by simp) (by simp) (by simp) (by simp) fun h => (h.setHL _).setF _
theorem ran_pushPair (q : StackPair) : Ran s (s.pushPair q) :=
  .of_cost (by decide) (by simp) (by simp) (by simp) (by simp) fun h => h.push16 _
theorem ran_popPair (q : StackPair) : Ran s (s.popPair q) :=
  .of_cost (by decide) (by simp [State.popped]) (by simp [State.popped]) (by simp [State.popped]) (by simp [State.popped])
    fun h => (h.setSP _).setStackPair _ _

theorem ran_alu (op : AluOp) (v : Byte) {n : Nat} (hn : n ∈ [4, 8, 12, 16, 20, 24]) : Ran s (s.alu op v n) :=
  .of_cost hn (by simp) (by simp) (by simp) (by simp) fun h => (h.setReg _ _).setF _
theorem ran_aluReg (op : AluOp) (r : Reg8) : Ran s (s.aluReg op r) := ran_alu s op _ (by decide)
theorem ran_aluIndHL (op : AluOp) : Ran s (s.aluIndHL op) := ran_alu s op _ (by decide)
theorem ran_aluN (op : AluOp) (n : Byte) : Ran s (s.aluN op n) := ran_alu s op _ (by decide)
theorem ran_incReg (r : Reg8) : Ran s (s.incReg r) :=
  .of_cost (by decide) (by simp) (by simp) (by simp) (by simp) fun h => (h.setReg _ _).setF _
theorem ran_decReg (r : Reg8) : Ran s (s.decReg r) :=
  .of_cost (by decide) (by simp) (by simp) (by simp) (by simp) fun h => (h.setReg _ _).setF _
theorem ran_incIndHL : Ran s s.incIndHL :=
  .of_cost (by decide) (by simp) (by simp) (by simp) (by simp) fun h => (h.memWrite _ _).setF _
theorem ran_decIndHL : Ran s s.decIndHL :=
  .of_cost (by decide) (by simp) (by simp) (by simp) (by simp) fun h => (h.memWrite _ _).setF _
theorem ran_decimalAdjust : Ran s s.decimalAdjust :=
  .of_cost (by decide) (by simp) (by simp) (by simp) (by simp) fun h => (h.setReg _ _).setF _
theorem ran_complementA : Ran s s.complementA :=
  .of_cost (by decide) (by simp) (by simp) (by simp) (by simp) fun h => (h.setReg _ _).setF _
theorem ran_setCarry : Ran s s.setCarry :=
  .of_cost (by decide) (by simp) (by simp) (by simp) (by simp) fun h => h.setF _
theorem ran_complementCarry : Ran s s.complementCarry :=
  .of_cost (by decide) (by simp) (by simp) (by simp) (by simp) fun h => h.setF _

theorem ran_addHL (p : Pair) : Ran s (s.addHL p) :=
  .of_cost (by decide) (by simp) (by simp) (by simp) (by simp) fun h => (h.setHL _).setF _
theorem ran_incPair (p : Pair) : Ran s (s.incPair p) :=
  .of_cost (by decide) (by simp) (by simp) (by simp) (by simp) fun h => h.setPair _ _
theorem ran_decPair (p : Pair) : Ran s (s.decPair p) :=
  .of_cost (by decide) (by simp) (by simp) (by simp) (by simp) fun h => h.setPair _ _
theorem ran_addSPE (e : Byte) : Ran s (s.addSPE e) :=
  .of_cost (by decide) (by simp) (by simp) (by simp) (by simp) fun h => (h.setSP _).setF _

theorem ran_rotateA (op : RotOp) : Ran s (s.rotateA op) :=
  .of_cost (by decide) (by simp) (by simp) (by simp) (by simp) fun h => (h.setReg _ _).setF _
theorem ran_rotReg (op : RotOp) (r : Reg8) : Ran s (s.rotReg op r) :=
  .of_cost (by decide) (by simp) (by simp) (by simp) (by simp) fun h => (h.setReg _ _).setF _
theorem ran_rotIndHL (op : RotOp) : Ran s (s.rotIndHL op) :=
  .of_cost (by decide) (by simp) (by simp) (by simp) (by simp) fun h => (h.memWrite _ _).setF _
theorem ran_testBitReg (b : Fin 8) (r : Reg8) : Ran s (s.testBitReg b r) :=
  .of_cost (by decide) (by simp) (by simp) (by simp) (by simp) fun h => h.setF _
theorem ran_testBitIndHL (b : Fin 8) : Ran s (s.testBitIndHL b) :=
  .of_cost (by decide) (by simp) (by simp) (by simp) (by simp) fun h => h.setF _
theorem ran_clearBitReg (b : Fin 8) (r : Reg8) : Ran s (s.clearBitReg b r) :=
  .of_cost (by decide) (by simp) (by simp) (by simp) (by simp) fun h => h.setReg _ _
theorem ran_clearBitIndHL (b : Fin 8) : Ran s (s.clearBitIndHL b) :=
  .of_cost (by decide) (by simp) (by simp) (by simp) (by simp) fun h => h.memWrite _ _
theorem ran_setBitReg (b : Fin 8) (r : Reg8) : Ran s (s.setBitReg b r) :=
  .of_cost (by decide) (by simp) (by simp) (by simp) (by simp) fun h => h.setReg _ _
theorem ran_setBitIndHL (b : Fin 8) : Ran s (s.setBitIndHL b) :=
  .of_cost (by decide) (by simp) (by simp) (by simp) (by simp) fun h => h.memWrite _ _

theorem ran_nop : Ran s (s.setCost 4) := .of_cost (by decide) rfl rfl rfl rfl fun h => h
theorem ran_jump (nn : Word) : Ran s (s.jump nn) := .of_cost (by decide) rfl rfl rfl rfl fun h => h.setPC _
theorem ran_jumpIf (cc : Cond) (nn : Word) : Ran s (s.jumpIf cc nn) := by
  unfold State.jumpIf
  split
  · exact .of_cost (by decide) rfl rfl rfl rfl fun h => h.setPC _
  · exact .of_cost (by decide) rfl rfl rfl rfl fun h => h
theorem ran_jumpHL : Ran s s.jumpHL := .of_cost (by decide) rfl rfl rfl rfl fun h => h.setPC _
theorem ran_jumpRel (e : Byte) : Ran s (s.jumpRel e) := .of_cost (by decide) rfl rfl rfl rfl fun h => h.setPC _
theorem ran_jumpRelIf (cc : Cond) (e : Byte) : Ran s (s.jumpRelIf cc e) := by
  unfold State.jumpRelIf
  split
  · exact .of_cost (by decide) rfl rfl rfl rfl fun h => h.setPC _
  · exact .of_cost (by decide) rfl rfl rfl rfl fun h => h
theorem ran_called (t : Word) {n : Nat} (hn : n ∈ [4, 8, 12, 16, 20, 24]) :
    Ran s (((s.push16 s.regs.pc).setPC t).setCost n) :=
  .of_cost hn (by simp) (by simp) (by simp) (by simp) fun h => (h.push16 _).setPC _
theorem ran_call (nn : Word) : Ran s (s.call nn) := ran_called s nn (by decide)
theorem ran_callIf (cc : Cond) (nn : Word) : Ran s (s.callIf cc nn) := by
  unfold State.callIf
  split
  · exact ran_called s nn (by decide)
  · exact .of_cost (by decide) rfl rfl rfl rfl fun h => h
theorem ran_rstCall (k : Fin 8) : Ran s (s.rstCall k) := ran_called s _ (by decide)
theorem ran_ret : Ran s s.ret := .of_cost (by decide) rfl rfl rfl rfl fun h => (h.setSP _).setPC _
theorem ran_retIf (cc : Cond) : Ran s (s.retIf cc) := by
  unfold State.retIf
  split
  · exact .of_cost (by decide) rfl rfl rfl rfl fun h => (h.setSP _).setPC _
  · exact .of_cost (by decide) rfl rfl rfl rfl fun h => h
theorem ran_reti : Ran s (s.returnFromInterrupt.setCost 16) :=
  .of_cost (by decide) rfl rfl rfl rfl fun h => ((h.setSP _).setPC _).requestIme _
theorem ran_requestIme (b : Bool) : Ran s ((s.requestIme b).setCost 4) :=
  .of_cost (by decide) rfl rfl rfl rfl fun h => h.requestIme _
theorem ran_haltCpu : Ran s s.haltCpu := by
  unfold State.haltCpu
  split
  · exact ⟨rfl, rfl, rfl, rfl, .inr rfl, .inl ⟨rfl, by simp⟩,
      fun h => (h.withCtl (c := { s.ctl with halted := true }) fun hb => hb).setCost 4⟩
  · exact ⟨rfl, rfl, rfl, rfl, .inr rfl, .inl ⟨rfl, by simp⟩,
      fun h => (h.withCtl (c := { s.ctl with haltBug := true }) fun hb => hb).setCost 4⟩
theorem ran_raiseUnimplemented (op : Byte) : Ran s (s.raiseUnimplemented op) :=
  ⟨rfl, rfl, rfl, rfl, .inr rfl, .inr ⟨rfl, rfl, rfl⟩, fun h => (h.setPC _).withCtl fun hb => hb⟩
theorem Ran.of_setPC {s t : State} {v : Word} (h : Ran (s.setPC v) t) : Ran s t :=
  ⟨h.ime, h.pipe0, h.plat, h.clock, h.request, h.outcome, fun hs => h.steady (hs.setPC v)⟩
theorem ran_prefixCB : Ran s s.prefixCB := by
  refine Ran.of_setPC (v := s.regs.pc + 1) ?_
  unfold State.prefixCB State.prefixed
  dsimp only
  split
  · exact ran_rotReg _ _ _
  · exact ran_rotIndHL _ _
  · exact ran_testBitReg _ _ _
  · exact ran_testBitIndHL _ _
  · exact ran_clearBitReg _ _ _
  · exact ran_clearBitIndHL _ _
  · exact ran_setBitReg _ _ _
  · exact ran_setBitIndHL _ _

/-- Every instruction answers a next state, and that state is one `Ran` describes. -/
theorem exec_ran (i : Instr) : ∃ t, exec i s = .next t ∧ Ran s t := by
  cases i
  case ldIndBCA | ldIndDEA | ldhNA | ldhCA | ldIndNnA => exact ⟨_, rfl, ran_storeA _ _ (by decide)⟩
  case ldBN | ldCN | ldDN | ldEN | ldHN | ldLN | ldAN => exact ⟨_, rfl, ran_loadRegN _ _ _⟩
  case ldAIndBC | ldAIndDE | ldhAN | ldhAC | ldAIndNn => exact ⟨_, rfl, ran_loadA _ _ (by decide)⟩
  case ldIndHLIncA | ldIndHLDecA => exact ⟨_, rfl, ran_storeAMoveHL _ _⟩
  case ldAIndHLInc | ldAIndHLDec => exact ⟨_, rfl, ran_loadAMoveHL _ _⟩
  case ldIndHLN => exact ⟨_, rfl, ran_storeIndHLN _ _⟩
  case ldBB | ldBC | ldBD | ldBE | ldBH | ldBL | ldBA | ldCB | ldCC | ldCD | ldCE | ldCH | ldCL | ldCA | ldDB | ldDC | ldDD
      | ldDE | ldDH | ldDL | ldDA | ldEB | ldEC | ldED | ldEE | ldEH | ldEL | ldEA | ldHB | ldHC | ldHD | ldHE | ldHH | ldHL
      | ldHA | ldLB | ldLC | ldLD | ldLE | ldLH | ldLL | ldLA | ldAB | ldAC | ldAD | ldAE | ldAH | ldAL | ldAA => exact ⟨_, rfl, ran_loadReg _ _ _⟩
  case ldBIndHL | ldCIndHL | ldDIndHL | ldEIndHL | ldHIndHL | ldLIndHL | ldAIndHL => exact ⟨_, rfl, ran_loadRegIndHL _ _⟩
  case ldIndHLB | ldIndHLC | ldIndHLD | ldIndHLE | ldIndHLH | ldIndHLL | ldIndHLA => exact ⟨_, rfl, ran_storeIndHLReg _ _⟩
  case ldBCNn | ldDENn | ldHLNn | ldSPNn => exact ⟨_, rfl, ran_loadPairNn _ _ _⟩
  case ldIndNnSP => exact ⟨_, rfl, ran_storeSP _ _⟩
  case popBC | popDE | popHL | popAF => exact ⟨_, rfl, ran_popPair _ _⟩
  case pushBC | pushDE | pushHL | pushAF => exact ⟨_, rfl, ran_pushPair _ _⟩
  case ldHLSPE => exact ⟨_, rfl, ran_loadHLSPE _ _⟩
  case ldSPHL => exact ⟨_, rfl, ran_loadSPHL _⟩
  case incB | incC | incD | incE | incH | incL | incA => exact ⟨_, rfl, ran_incReg _ _⟩
  case decB | decC | decD | decE | decH | decL | decA => exact ⟨_, rfl, ran_decReg _ _⟩
  case daa => exact ⟨_, rfl, ran_decimalAdjust _⟩
  case cpl => exact ⟨_, rfl, ran_complementA _⟩
  case incIndHL => exact ⟨_, rfl, ran_incIndHL _⟩
  case decIndHL => exact ⟨_, rfl, ran_decIndHL _⟩
  case scf => exact ⟨_, rfl, ran_setCarry _⟩
  case ccf => exact ⟨_, rfl, ran_complementCarry _⟩
  case addAB | addAC | addAD | addAE | addAH | addAL | addAA | adcAB | adcAC | adcAD | adcAE | adcAH | adcAL | adcAA | subB
      | subC | subD | subE | subH | subL | subA | sbcAB | sbcAC | sbcAD | sbcAE | sbcAH | sbcAL | sbcAA | andB | andC | andD
      | andE | andH | andL | andA | xorB | xorC | xorD | xorE | xorH | xorL | xorA | orB | orC | orD | orE | orH | orL | orA
      | cpB | cpC | cpD | cpE | cpH | cpL | cpA => exact ⟨_, rfl, ran_aluReg _ _ _⟩
  case addAIndHL | adcAIndHL | subIndHL | sbcAIndHL | andIndHL | xorIndHL | orIndHL | cpIndHL => exact ⟨_, rfl, ran_aluIndHL _ _⟩
  case addAN | adcAN | subN | sbcAN | andN | xorN | orN | cpN => exact ⟨_, rfl, ran_aluN _ _ _⟩
  case incBC | incDE | incHL | incSP => exact ⟨_, rfl, ran_incPair _ _⟩
  case addHLBC | addHLDE | addHLHL | addHLSP => exact ⟨_, rfl, ran_addHL _ _⟩
  case decBC | decDE | decHL | decSP => exact ⟨_, rfl, ran_decPair _ _⟩
  case addSPE => exact ⟨_, rfl, ran_addSPE _ _⟩
  case rlca | rrca | rla | rra => exact ⟨_, rfl, ran_rotateA _ _⟩
  case rlcB | rlcC | rlcD | rlcE | rlcH | rlcL | rlcA | rrcB | rrcC | rrcD | rrcE | rrcH | rrcL | rrcA | rlB | rlC | rlD
      | rlE | rlH | rlL | rlA | rrB | rrC | rrD | rrE | rrH | rrL | rrA | slaB | slaC | slaD | slaE | slaH | slaL | slaA
      | sraB | sraC | sraD | sraE | sraH | sraL | sraA | swapB | swapC | swapD | swapE | swapH | swapL | swapA | srlB | srlC
      | srlD | srlE | srlH | srlL | srlA => exact ⟨_, rfl, ran_rotReg _ _ _⟩
  case rlcIndHL | rrcIndHL | rlIndHL | rrIndHL | slaIndHL | sraIndHL | swapIndHL | srlIndHL => exact ⟨_, rfl, ran_rotIndHL _ _⟩
  case bit0B | bit0C | bit0D | bit0E | bit0H | bit0L | bit0A | bit1B | bit1C | bit1D | bit1E | bit1H | bit1L | bit1A | bit2B
      | bit2C | bit2D | bit2E | bit2H | bit2L | bit2A | bit3B | bit3C | bit3D | bit3E | bit3H | bit3L | bit3A | bit4B | bit4C
      | bit4D | bit4E | bit4H | bit4L | bit4A | bit5B | bit5C | bit5D | bit5E | bit5H | bit5L | bit5A | bit6B | bit6C | bit6D
      | bit6E | bit6H | bit6L | bit6A | bit7B | bit7C | bit7D | bit7E | bit7H | bit7L | bit7A => exact ⟨_, rfl, ran_testBitReg _ _ _⟩
  case bit0IndHL | bit1IndHL | bit2IndHL | bit3IndHL | bit4IndHL | bit5IndHL | bit6IndHL | bit7IndHL => exact ⟨_, rfl, ran_testBitIndHL _ _⟩
  case res0B | res0C | res0D | res0E | res0H | res0L | res0A | res1B | res1C | res1D | res1E | res1H | res1L | res1A | res2B
      | res2C | res2D | res2E | res2H | res2L | res2A | res3B | res3C | res3D | res3E | res3H | res3L | res3A | res4B | res4C
      | res4D | res4E | res4H | res4L | res4A | res5B | res5C | res5D | res5E | res5H | res5L | res5A | res6B | res6C | res6D
      | res6E | res6H | res6L | res6A | res7B | res7C | res7D | res7E | res7H | res7L | res7A => exact ⟨_, rfl, ran_clearBitReg _ _ _⟩
  case res0IndHL | res1IndHL | res2IndHL | res3IndHL | res4IndHL | res5IndHL | res6IndHL | res7IndHL => exact ⟨_, rfl, ran_clearBitIndHL _ _⟩
  case set0B | set0C | set0D | set0E | set0H | set0L | set0A | set1B | set1C | set1D | set1E | set1H | set1L | set1A | set2B
      | set2C | set2D | set2E | set2H | set2L | set2A | set3B | set3C | set3D | set3E | set3H | set3L | set3A | set4B | set4C
      | set4D | set4E | set4H | set4L | set4A | set5B | set5C | set5D | set5E | set5H | set5L | set5A | set6B | set6C | set6D
      | set6E | set6H | set6L | set6A | set7B | set7C | set7D | set7E | set7H | set7L | set7A => exact ⟨_, rfl, ran_setBitReg _ _ _⟩
  case set0IndHL | set1IndHL | set2IndHL | set3IndHL | set4IndHL | set5IndHL | set6IndHL | set7IndHL => exact ⟨_, rfl, ran_setBitIndHL _ _⟩
  case jrE => exact ⟨_, rfl, ran_jumpRel _ _⟩
  case jrNZE | jrZE | jrNCE | jrCE => exact ⟨_, rfl, ran_jumpRelIf _ _ _⟩
  case retNZ | retZ | retNC | retC => exact ⟨_, rfl, ran_retIf _ _⟩
  case jpNZNn | jpZNn | jpNCNn | jpCNn => exact ⟨_, rfl, ran_jumpIf _ _ _⟩
  case jpNn => exact ⟨_, rfl, ran_jump _ _⟩
  case callNZNn | callZNn | callNCNn | callCNn => exact ⟨_, rfl, ran_callIf _ _ _⟩
  case rst00 | rst08 | rst10 | rst18 | rst20 | rst28 | rst30 | rst38 => exact ⟨_, rfl, ran_rstCall _ _⟩
  case ret => exact ⟨_, rfl, ran_ret _⟩
  case callNn => exact ⟨_, rfl, ran_call _ _⟩
  case reti => exact ⟨_, rfl, ran_reti _⟩
  case jpHL => exact ⟨_, rfl, ran_jumpHL _⟩
  case nop => exact ⟨_, rfl, ran_nop _⟩
  case stop | unimplD3 | unimplDB | unimplDD | unimplE3 | unimplE4 | unimplEB | unimplEC | unimplED | unimplF4 | unimplFC
      | unimplFD => exact ⟨_, rfl, ran_raiseUnimplemented _ _⟩
  case halt => exact ⟨_, rfl, ran_haltCpu _⟩
  case prefixCB => exact ⟨_, rfl, ran_prefixCB _⟩
  case di | ei => exact ⟨_, rfl, ran_requestIme _ _⟩

/-! ### Fetching and stepping -/

/-- An instruction is always fetched (R90). -/
theorem fetchInstr_total : ∃ i n, s.fetchInstr = some (i, s.afterFetch n) := by
  obtain ⟨i, rest, h⟩ := Sys2Proof.Laws.decode_three_total (s.memRead s.regs.pc) (s.memRead s.pcAfterOpcode)
    (s.memRead (s.pcAfterOpcode + 1))
  exact ⟨i, 3 - rest.length, by unfold State.fetchInstr State.fetchWindow; rw [h]⟩

/-- Unmapping the boot image changes that flag only, and never sets it (R56). -/
theorem unmapBoot_cases : s.unmapBoot = s ∨ s.unmapBoot = { s with ctl := { s.ctl with bootMapped := false } } := by
  unfold State.unmapBoot
  split
  · exact .inr rfl
  · exact .inl rfl
@[simp] theorem unmapBoot_regs : s.unmapBoot.regs = s.regs := by rcases unmapBoot_cases s with h | h <;> rw [h]
@[simp] theorem unmapBoot_irq : s.unmapBoot.irq = s.irq := by rcases unmapBoot_cases s with h | h <;> rw [h]
@[simp] theorem unmapBoot_plat : s.unmapBoot.plat = s.plat := by rcases unmapBoot_cases s with h | h <;> rw [h]
@[simp] theorem unmapBoot_halted : s.unmapBoot.ctl.halted = s.ctl.halted := by rcases unmapBoot_cases s with h | h <;> rw [h]
@[simp] theorem unmapBoot_haltBug : s.unmapBoot.ctl.haltBug = s.ctl.haltBug := by rcases unmapBoot_cases s with h | h <;> rw [h]
@[simp] theorem unmapBoot_fault : s.unmapBoot.ctl.fault = s.ctl.fault := by rcases unmapBoot_cases s with h | h <;> rw [h]
@[simp] theorem unmapBoot_cycleClock : s.unmapBoot.ctl.cycleClock = s.ctl.cycleClock := by
  rcases unmapBoot_cases s with h | h <;> rw [h]
theorem Steady.unmapBoot {s : State} (h : Steady s) : Steady s.unmapBoot := by
  rcases unmapBoot_cases s with e | e <;> rw [e]
  · exact h
  · exact h.withCtl fun hb => absurd hb (by simp)
theorem Steady.afterFetch {s : State} (h : Steady s) (n : Nat) : Steady (s.afterFetch n) := (h.setPC _).withCtl fun hb => hb

/-- Everything a step can do: without a fault it idles halted, or it fetches an instruction, runs it and ends the step. -/
theorem step_cases {s t : State} (h : step s = .next t) : s.ctl.fault = none ∧
    ((s.ctl.halted = true ∧ t = s.unmapBoot.idleStep) ∨
     (s.ctl.halted = false ∧ ∃ i n u, s.unmapBoot.fetchInstr = some (i, s.unmapBoot.afterFetch n) ∧
       exec i (s.unmapBoot.afterFetch n) = .next u ∧ Ran (s.unmapBoot.afterFetch n) u ∧ t = u.endStep)) := by
  unfold step at h
  split at h
  · cases h
  · rename_i hf
    refine ⟨hf, ?_⟩
    dsimp only at h
    split at h
    · rename_i hh
      exact .inl ⟨by simpa using hh, by cases h; rfl⟩
    · rename_i hh
      obtain ⟨i, n, hi⟩ := fetchInstr_total s.unmapBoot
      obtain ⟨u, hu, hr⟩ := exec_ran (s.unmapBoot.afterFetch n) i
      simp only [hi, hu] at h
      exact .inr ⟨by simpa using hh, i, n, u, hi, hu, hr, by cases h; rfl⟩

end Sys2Proof.Machine.Laws
end

