-- ==== Sys2Proof/Tests/Slice0.lean ====
section
/-! SUPPORT. Tests. Expected results come from the spec: spec/opcode_table.json's encodings, the vectors of
spec/95_test_vectors.md (its conventions are section 0) and the examples of the rules; none is the model's own answer. At the end,
for every obligation with hypotheses, a witness that meets them. -/

namespace Sys2Proof.Tests

open Sys2Proof Sys2Proof.Machine

/-! ### Helpers -/

/-- The decoder reads the bytes, all of them, as the instruction. -/
def reads (l : List Byte) (i : Instr) : Bool :=
  match decode l with
  | .ok (j, []) => decide (j = i)
  | _ => false

/-- A value set directly, without side effects (spec/95 section 0: "poked"). -/
inductive Put where
  | r (q : Reg8) (v : Byte)
  | f (v : Byte)
  | sp (v : Word)
  | pc (v : Word)
  | ime (v : Bool)
  | m (a : Word) (v : Byte)

/-- Set a byte behind the bus: the registers the vectors name, else `mem`. -/
def poke (s : State) (a : Word) (v : Byte) : State :=
  if a = 0xFFFF then { s with irq := { s.irq with enable := v } }
  else if a = 0xFF0F then { s with irq := { s.irq with flags := v } }
  else if a = 0xFF04 then { s with timer := { s.timer with div := v } }
  else if a = 0xFF05 then { s with timer := { s.timer with tima := v } }
  else if a = 0xFF06 then { s with timer := { s.timer with tma := v } }
  else if a = 0xFF07 then { s with timer := { s.timer with tac := v } }
  else if a = 0xFF47 then { s with ppu := { s.ppu with bgp := v } }
  else s.storeMem a.toNat v

def put (s : State) : Put → State
  | .r q v => s.setReg q v
  | .f v => { s with regs := { s.regs with f := v } }
  | .sp v => s.setSP v
  | .pc v => s.setPC v
  | .ime v => { s with irq := { s.irq with ime := v } }
  | .m a v => poke s a v

/-- Bytes placed from an address on. -/
def code (s : State) (a : Word) : List Byte → State
  | [] => s
  | b :: l => code (s.placeByte a b) (a + 1) l

/-- The start of a vector: reset, PC at 0xC000, F zero, the "before" column, the bytes at PC. -/
def start (bytes : List Byte) (before : List Put) : State :=
  let s := before.foldl put (put (put State.reset (.pc 0xC000)) (.f 0x00))
  code s s.regs.pc bytes

/-- A row of section 2: bytes, before, after, cost. -/
structure Row where
  bytes : List Byte
  before : List Put
  after : List Put
  cost : Nat

/-- One step gives the registers, the memory and the cost of the row; what the row does not name is unchanged. -/
def Row.holds (w : Row) : Bool :=
  let s := start w.bytes w.before
  let e := w.after.foldl put s
  match step s with
  | .next t =>
    decide (t.regs = e.regs) && decide (t.mem = e.mem) && decide (t.extRam = e.extRam) && decide (t.plat = e.plat) &&
      decide (t.irq.enable = e.irq.enable) && decide (t.timer.div = e.timer.div) && decide (t.ppu.bgp = e.ppu.bgp) &&
      decide (t.ctl.cycleClock = w.cost) && decide (t.ctl.fault = none)
  | _ => false

/-- A step's next state has the property. -/
def after (s : State) (p : State → Bool) : Bool :=
  match step s with
  | .next t => p t
  | _ => false

/-! ### Well-formedness: the one ill-formed instruction is refused -/

theorem test_prefix_alone_is_ill_formed : WellFormed .prefixCB = false := rfl
theorem test_prefixed_is_well_formed : WellFormed .rlcB = true := rfl
/-- The table's own row PREFIX_CB stands alone; with a second byte the prefixed instruction is read; no byte is no instruction. -/
theorem test_decode_edges : reads [0b11001011] .prefixCB = true ∧ reads [0b11001011, 0b00000000] .rlcB = true ∧
    decode [] = .error .noOpcode ∧ decode [0x3E] = .error (.missingOperand 0x3E) ∧
    decode [0xC3, 0x34] = .error (.missingOperand 0xC3) := ⟨by decide +kernel, by decide +kernel, rfl, rfl, rfl⟩
/-- The table numbers a prefixed row with the prefix in the high byte; any other row's operand bytes are zeros. -/
theorem test_table_words : decodeTableWord 16 0xCB37 = some .swapA ∧ decodeTableWord 8 0x01 = some (.ldBCNn 0x0000) ∧
    decodeTableWord 8 0xCB = some .prefixCB ∧ decodeTableWord 24 0x1234C3 = some (.jpNn 0x1234) := by decide +kernel

/-! ### Every row of spec/opcode_table.json: its word, written from the row's encoding with operand bytes 0x9A, 0xFC or 0x34 0x12,
decodes to its instruction -/

theorem test_decode_rows_00_to_3F : (
    [reads [0b00000000] .nop, reads [0b00000001, 0x34, 0x12] (.ldBCNn 0x1234), reads [0b00000010] .ldIndBCA,
     reads [0b00000011] .incBC, reads [0b00000100] .incB, reads [0b00000101] .decB, reads [0b00000110, 0x9A] (.ldBN 0x9A),
     reads [0b00000111] .rlca, reads [0b00001000, 0x34, 0x12] (.ldIndNnSP 0x1234), reads [0b00001001] .addHLBC,
     reads [0b00001010] .ldAIndBC, reads [0b00001011] .decBC, reads [0b00001100] .incC, reads [0b00001101] .decC,
     reads [0b00001110, 0x9A] (.ldCN 0x9A), reads [0b00001111] .rrca] ++
    [reads [0b00010000, 0x9A] (.stop 0x9A), reads [0b00010001, 0x34, 0x12] (.ldDENn 0x1234), reads [0b00010010] .ldIndDEA,
     reads [0b00010011] .incDE, reads [0b00010100] .incD, reads [0b00010101] .decD, reads [0b00010110, 0x9A] (.ldDN 0x9A),
     reads [0b00010111] .rla, reads [0b00011000, 0xFC] (.jrE 0xFC), reads [0b00011001] .addHLDE,
     reads [0b00011010] .ldAIndDE, reads [0b00011011] .decDE, reads [0b00011100] .incE, reads [0b00011101] .decE,
     reads [0b00011110, 0x9A] (.ldEN 0x9A), reads [0b00011111] .rra] ++
    [reads [0b00100000, 0xFC] (.jrNZE 0xFC), reads [0b00100001, 0x34, 0x12] (.ldHLNn 0x1234),
     reads [0b00100010] .ldIndHLIncA, reads [0b00100011] .incHL, reads [0b00100100] .incH, reads [0b00100101] .decH,
     reads [0b00100110, 0x9A] (.ldHN 0x9A), reads [0b00100111] .daa, reads [0b00101000, 0xFC] (.jrZE 0xFC),
     reads [0b00101001] .addHLHL, reads [0b00101010] .ldAIndHLInc, reads [0b00101011] .decHL, reads [0b00101100] .incL,
     reads [0b00101101] .decL, reads [0b00101110, 0x9A] (.ldLN 0x9A), reads [0b00101111] .cpl] ++
    [reads [0b00110000, 0xFC] (.jrNCE 0xFC), reads [0b00110001, 0x34, 0x12] (.ldSPNn 0x1234),
     reads [0b00110010] .ldIndHLDecA, reads [0b00110011] .incSP, reads [0b00110100] .incIndHL, reads [0b00110101] .decIndHL,
     reads [0b00110110, 0x9A] (.ldIndHLN 0x9A), reads [0b00110111] .scf, reads [0b00111000, 0xFC] (.jrCE 0xFC),
     reads [0b00111001] .addHLSP, reads [0b00111010] .ldAIndHLDec, reads [0b00111011] .decSP, reads [0b00111100] .incA,
     reads [0b00111101] .decA, reads [0b00111110, 0x9A] (.ldAN 0x9A), reads [0b00111111] .ccf]).all id = true := by decide +kernel
theorem test_decode_rows_40_to_7F : (
    [reads [0b01000000] .ldBB, reads [0b01000001] .ldBC, reads [0b01000010] .ldBD, reads [0b01000011] .ldBE,
     reads [0b01000100] .ldBH, reads [0b01000101] .ldBL, reads [0b01000110] .ldBIndHL, reads [0b01000111] .ldBA,
     reads [0b01001000] .ldCB, reads [0b01001001] .ldCC, reads [0b01001010] .ldCD, reads [0b01001011] .ldCE,
     reads [0b01001100] .ldCH, reads [0b01001101] .ldCL, reads [0b01001110] .ldCIndHL, reads [0b01001111] .ldCA] ++
    [reads [0b01010000] .ldDB, reads [0b01010001] .ldDC, reads [0b01010010] .ldDD, reads [0b01010011] .ldDE,
     reads [0b01010100] .ldDH, reads [0b01010101] .ldDL, reads [0b01010110] .ldDIndHL, reads [0b01010111] .ldDA,
     reads [0b01011000] .ldEB, reads [0b01011001] .ldEC, reads [0b01011010] .ldED, reads [0b01011011] .ldEE,
     reads [0b01011100] .ldEH, reads [0b01011101] .ldEL, reads [0b01011110] .ldEIndHL, reads [0b01011111] .ldEA] ++
    [reads [0b01100000] .ldHB, reads [0b01100001] .ldHC, reads [0b01100010] .ldHD, reads [0b01100011] .ldHE,
     reads [0b01100100] .ldHH, reads [0b01100101] .ldHL, reads [0b01100110] .ldHIndHL, reads [0b01100111] .ldHA,
     reads [0b01101000] .ldLB, reads [0b01101001] .ldLC, reads [0b01101010] .ldLD, reads [0b01101011] .ldLE,
     reads [0b01101100] .ldLH, reads [0b01101101] .ldLL, reads [0b01101110] .ldLIndHL, reads [0b01101111] .ldLA] ++
    [reads [0b01110000] .ldIndHLB, reads [0b01110001] .ldIndHLC, reads [0b01110010] .ldIndHLD, reads [0b01110011] .ldIndHLE,
     reads [0b01110100] .ldIndHLH, reads [0b01110101] .ldIndHLL, reads [0b01110110] .halt, reads [0b01110111] .ldIndHLA,
     reads [0b01111000] .ldAB, reads [0b01111001] .ldAC, reads [0b01111010] .ldAD, reads [0b01111011] .ldAE,
     reads [0b01111100] .ldAH, reads [0b01111101] .ldAL, reads [0b01111110] .ldAIndHL, reads [0b01111111] .ldAA]).all id = true := by decide +kernel
theorem test_decode_rows_80_to_BF : (
    [reads [0b10000000] .addAB, reads [0b10000001] .addAC, reads [0b10000010] .addAD, reads [0b10000011] .addAE,
     reads [0b10000100] .addAH, reads [0b10000101] .addAL, reads [0b10000110] .addAIndHL, reads [0b10000111] .addAA,
     reads [0b10001000] .adcAB, reads [0b10001001] .adcAC, reads [0b10001010] .adcAD, reads [0b10001011] .adcAE,
     reads [0b10001100] .adcAH, reads [0b10001101] .adcAL, reads [0b10001110] .adcAIndHL, reads [0b10001111] .adcAA] ++
    [reads [0b10010000] .subB, reads [0b10010001] .subC, reads [0b10010010] .subD, reads [0b10010011] .subE,
     reads [0b10010100] .subH, reads [0b10010101] .subL, reads [0b10010110] .subIndHL, reads [0b10010111] .subA,
     reads [0b10011000] .sbcAB, reads [0b10011001] .sbcAC, reads [0b10011010] .sbcAD, reads [0b10011011] .sbcAE,
     reads [0b10011100] .sbcAH, reads [0b10011101] .sbcAL, reads [0b10011110] .sbcAIndHL, reads [0b10011111] .sbcAA] ++
    [reads [0b10100000] .andB, reads [0b10100001] .andC, reads [0b10100010] .andD, reads [0b10100011] .andE,
     reads [0b10100100] .andH, reads [0b10100101] .andL, reads [0b10100110] .andIndHL, reads [0b10100111] .andA,
     reads [0b10101000] .xorB, reads [0b10101001] .xorC, reads [0b10101010] .xorD, reads [0b10101011] .xorE,
     reads [0b10101100] .xorH, reads [0b10101101] .xorL, reads [0b10101110] .xorIndHL, reads [0b10101111] .xorA] ++
    [reads [0b10110000] .orB, reads [0b10110001] .orC, reads [0b10110010] .orD, reads [0b10110011] .orE,
     reads [0b10110100] .orH, reads [0b10110101] .orL, reads [0b10110110] .orIndHL, reads [0b10110111] .orA,
     reads [0b10111000] .cpB, reads [0b10111001] .cpC, reads [0b10111010] .cpD, reads [0b10111011] .cpE,
     reads [0b10111100] .cpH, reads [0b10111101] .cpL, reads [0b10111110] .cpIndHL, reads [0b10111111] .cpA]).all id = true := by decide +kernel
theorem test_decode_rows_C0_to_FF : (
    [reads [0b11000000] .retNZ, reads [0b11000001] .popBC, reads [0b11000010, 0x34, 0x12] (.jpNZNn 0x1234),
     reads [0b11000011, 0x34, 0x12] (.jpNn 0x1234), reads [0b11000100, 0x34, 0x12] (.callNZNn 0x1234),
     reads [0b11000101] .pushBC, reads [0b11000110, 0x9A] (.addAN 0x9A), reads [0b11000111] .rst00,
     reads [0b11001000] .retZ, reads [0b11001001] .ret, reads [0b11001010, 0x34, 0x12] (.jpZNn 0x1234),
     reads [0b11001011] .prefixCB, reads [0b11001100, 0x34, 0x12] (.callZNn 0x1234),
     reads [0b11001101, 0x34, 0x12] (.callNn 0x1234), reads [0b11001110, 0x9A] (.adcAN 0x9A), reads [0b11001111] .rst08] ++
    [reads [0b11010000] .retNC, reads [0b11010001] .popDE, reads [0b11010010, 0x34, 0x12] (.jpNCNn 0x1234),
     reads [0b11010011] .unimplD3, reads [0b11010100, 0x34, 0x12] (.callNCNn 0x1234), reads [0b11010101] .pushDE,
     reads [0b11010110, 0x9A] (.subN 0x9A), reads [0b11010111] .rst10, reads [0b11011000] .retC, reads [0b11011001] .reti,
     reads [0b11011010, 0x34, 0x12] (.jpCNn 0x1234), reads [0b11011011] .unimplDB,
     reads [0b11011100, 0x34, 0x12] (.callCNn 0x1234), reads [0b11011101] .unimplDD, reads [0b11011110, 0x9A] (.sbcAN 0x9A),
     reads [0b11011111] .rst18] ++
    [reads [0b11100000, 0x9A] (.ldhNA 0x9A), reads [0b11100001] .popHL, reads [0b11100010] .ldhCA,
     reads [0b11100011] .unimplE3, reads [0b11100100] .unimplE4, reads [0b11100101] .pushHL,
     reads [0b11100110, 0x9A] (.andN 0x9A), reads [0b11100111] .rst20, reads [0b11101000, 0xFC] (.addSPE 0xFC),
     reads [0b11101001] .jpHL, reads [0b11101010, 0x34, 0x12] (.ldIndNnA 0x1234), reads [0b11101011] .unimplEB,
     reads [0b11101100] .unimplEC, reads [0b11101101] .unimplED, reads [0b11101110, 0x9A] (.xorN 0x9A),
     reads [0b11101111] .rst28] ++
    [reads [0b11110000, 0x9A] (.ldhAN 0x9A), reads [0b11110001] .popAF, reads [0b11110010] .ldhAC, reads [0b11110011] .di,
     reads [0b11110100] .unimplF4, reads [0b11110101] .pushAF, reads [0b11110110, 0x9A] (.orN 0x9A),
     reads [0b11110111] .rst30, reads [0b11111000, 0xFC] (.ldHLSPE 0xFC), reads [0b11111001] .ldSPHL,
     reads [0b11111010, 0x34, 0x12] (.ldAIndNn 0x1234), reads [0b11111011] .ei, reads [0b11111100] .unimplFC,
     reads [0b11111101] .unimplFD, reads [0b11111110, 0x9A] (.cpN 0x9A), reads [0b11111111] .rst38]).all id = true := by decide +kernel
theorem test_decode_prefixed_00_to_3F : (
    [reads [0b11001011, 0b00000000] .rlcB, reads [0b11001011, 0b00000001] .rlcC, reads [0b11001011, 0b00000010] .rlcD,
     reads [0b11001011, 0b00000011] .rlcE, reads [0b11001011, 0b00000100] .rlcH, reads [0b11001011, 0b00000101] .rlcL,
     reads [0b11001011, 0b00000110] .rlcIndHL, reads [0b11001011, 0b00000111] .rlcA, reads [0b11001011, 0b00001000] .rrcB,
     reads [0b11001011, 0b00001001] .rrcC, reads [0b11001011, 0b00001010] .rrcD, reads [0b11001011, 0b00001011] .rrcE,
     reads [0b11001011, 0b00001100] .rrcH, reads [0b11001011, 0b00001101] .rrcL, reads [0b11001011, 0b00001110] .rrcIndHL,
     reads [0b11001011, 0b00001111] .rrcA] ++
    [reads [0b11001011, 0b00010000] .rlB, reads [0b11001011, 0b00010001] .rlC, reads [0b11001011, 0b00010010] .rlD,
     reads [0b11001011, 0b00010011] .rlE, reads [0b11001011, 0b00010100] .rlH, reads [0b11001011, 0b00010101] .rlL,
     reads [0b11001011, 0b00010110] .rlIndHL, reads [0b11001011, 0b00010111] .rlA, reads [0b11001011, 0b00011000] .rrB,
     reads [0b11001011, 0b00011001] .rrC, reads [0b11001011, 0b00011010] .rrD, reads [0b11001011, 0b00011011] .rrE,
     reads [0b11001011, 0b00011100] .rrH, reads [0b11001011, 0b00011101] .rrL, reads [0b11001011, 0b00011110] .rrIndHL,
     reads [0b11001011, 0b00011111] .rrA] ++
    [reads [0b11001011, 0b00100000] .slaB, reads [0b11001011, 0b00100001] .slaC, reads [0b11001011, 0b00100010] .slaD,
     reads [0b11001011, 0b00100011] .slaE, reads [0b11001011, 0b00100100] .slaH, reads [0b11001011, 0b00100101] .slaL,
     reads [0b11001011, 0b00100110] .slaIndHL, reads [0b11001011, 0b00100111] .slaA, reads [0b11001011, 0b00101000] .sraB,
     reads [0b11001011, 0b00101001] .sraC, reads [0b11001011, 0b00101010] .sraD, reads [0b11001011, 0b00101011] .sraE,
     reads [0b11001011, 0b00101100] .sraH, reads [0b11001011, 0b00101101] .sraL, reads [0b11001011, 0b00101110] .sraIndHL,
     reads [0b11001011, 0b00101111] .sraA] ++
    [reads [0b11001011, 0b00110000] .swapB, reads [0b11001011, 0b00110001] .swapC, reads [0b11001011, 0b00110010] .swapD,
     reads [0b11001011, 0b00110011] .swapE, reads [0b11001011, 0b00110100] .swapH, reads [0b11001011, 0b00110101] .swapL,
     reads [0b11001011, 0b00110110] .swapIndHL, reads [0b11001011, 0b00110111] .swapA, reads [0b11001011, 0b00111000] .srlB,
     reads [0b11001011, 0b00111001] .srlC, reads [0b11001011, 0b00111010] .srlD, reads [0b11001011, 0b00111011] .srlE,
     reads [0b11001011, 0b00111100] .srlH, reads [0b11001011, 0b00111101] .srlL, reads [0b11001011, 0b00111110] .srlIndHL,
     reads [0b11001011, 0b00111111] .srlA]).all id = true := by decide +kernel
theorem test_decode_prefixed_40_to_7F : (
    [reads [0b11001011, 0b01000000] .bit0B, reads [0b11001011, 0b01000001] .bit0C, reads [0b11001011, 0b01000010] .bit0D,
     reads [0b11001011, 0b01000011] .bit0E, reads [0b11001011, 0b01000100] .bit0H, reads [0b11001011, 0b01000101] .bit0L,
     reads [0b11001011, 0b01000110] .bit0IndHL, reads [0b11001011, 0b01000111] .bit0A,
     reads [0b11001011, 0b01001000] .bit1B, reads [0b11001011, 0b01001001] .bit1C, reads [0b11001011, 0b01001010] .bit1D,
     reads [0b11001011, 0b01001011] .bit1E, reads [0b11001011, 0b01001100] .bit1H, reads [0b11001011, 0b01001101] .bit1L,
     reads [0b11001011, 0b01001110] .bit1IndHL, reads [0b11001011, 0b01001111] .bit1A] ++
    [reads [0b11001011, 0b01010000] .bit2B, reads [0b11001011, 0b01010001] .bit2C, reads [0b11001011, 0b01010010] .bit2D,
     reads [0b11001011, 0b01010011] .bit2E, reads [0b11001011, 0b01010100] .bit2H, reads [0b11001011, 0b01010101] .bit2L,
     reads [0b11001011, 0b01010110] .bit2IndHL, reads [0b11001011, 0b01010111] .bit2A,
     reads [0b11001011, 0b01011000] .bit3B, reads [0b11001011, 0b01011001] .bit3C, reads [0b11001011, 0b01011010] .bit3D,
     reads [0b11001011, 0b01011011] .bit3E, reads [0b11001011, 0b01011100] .bit3H, reads [0b11001011, 0b01011101] .bit3L,
     reads [0b11001011, 0b01011110] .bit3IndHL, reads [0b11001011, 0b01011111] .bit3A] ++
    [reads [0b11001011, 0b01100000] .bit4B, reads [0b11001011, 0b01100001] .bit4C, reads [0b11001011, 0b01100010] .bit4D,
     reads [0b11001011, 0b01100011] .bit4E, reads [0b11001011, 0b01100100] .bit4H, reads [0b11001011, 0b01100101] .bit4L,
     reads [0b11001011, 0b01100110] .bit4IndHL, reads [0b11001011, 0b01100111] .bit4A,
     reads [0b11001011, 0b01101000] .bit5B, reads [0b11001011, 0b01101001] .bit5C, reads [0b11001011, 0b01101010] .bit5D,
     reads [0b11001011, 0b01101011] .bit5E, reads [0b11001011, 0b01101100] .bit5H, reads [0b11001011, 0b01101101] .bit5L,
     reads [0b11001011, 0b01101110] .bit5IndHL, reads [0b11001011, 0b01101111] .bit5A] ++
    [reads [0b11001011, 0b01110000] .bit6B, reads [0b11001011, 0b01110001] .bit6C, reads [0b11001011, 0b01110010] .bit6D,
     reads [0b11001011, 0b01110011] .bit6E, reads [0b11001011, 0b01110100] .bit6H, reads [0b11001011, 0b01110101] .bit6L,
     reads [0b11001011, 0b01110110] .bit6IndHL, reads [0b11001011, 0b01110111] .bit6A,
     reads [0b11001011, 0b01111000] .bit7B, reads [0b11001011, 0b01111001] .bit7C, reads [0b11001011, 0b01111010] .bit7D,
     reads [0b11001011, 0b01111011] .bit7E, reads [0b11001011, 0b01111100] .bit7H, reads [0b11001011, 0b01111101] .bit7L,
     reads [0b11001011, 0b01111110] .bit7IndHL, reads [0b11001011, 0b01111111] .bit7A]).all id = true := by decide +kernel
theorem test_decode_prefixed_80_to_BF : (
    [reads [0b11001011, 0b10000000] .res0B, reads [0b11001011, 0b10000001] .res0C, reads [0b11001011, 0b10000010] .res0D,
     reads [0b11001011, 0b10000011] .res0E, reads [0b11001011, 0b10000100] .res0H, reads [0b11001011, 0b10000101] .res0L,
     reads [0b11001011, 0b10000110] .res0IndHL, reads [0b11001011, 0b10000111] .res0A,
     reads [0b11001011, 0b10001000] .res1B, reads [0b11001011, 0b10001001] .res1C, reads [0b11001011, 0b10001010] .res1D,
     reads [0b11001011, 0b10001011] .res1E, reads [0b11001011, 0b10001100] .res1H, reads [0b11001011, 0b10001101] .res1L,
     reads [0b11001011, 0b10001110] .res1IndHL, reads [0b11001011, 0b10001111] .res1A] ++
    [reads [0b11001011, 0b10010000] .res2B, reads [0b11001011, 0b10010001] .res2C, reads [0b11001011, 0b10010010] .res2D,
     reads [0b11001011, 0b10010011] .res2E, reads [0b11001011, 0b10010100] .res2H, reads [0b11001011, 0b10010101] .res2L,
     reads [0b11001011, 0b10010110] .res2IndHL, reads [0b11001011, 0b10010111] .res2A,
     reads [0b11001011, 0b10011000] .res3B, reads [0b11001011, 0b10011001] .res3C, reads [0b11001011, 0b10011010] .res3D,
     reads [0b11001011, 0b10011011] .res3E, reads [0b11001011, 0b10011100] .res3H, reads [0b11001011, 0b10011101] .res3L,
     reads [0b11001011, 0b10011110] .res3IndHL, reads [0b11001011, 0b10011111] .res3A] ++
    [reads [0b11001011, 0b10100000] .res4B, reads [0b11001011, 0b10100001] .res4C, reads [0b11001011, 0b10100010] .res4D,
     reads [0b11001011, 0b10100011] .res4E, reads [0b11001011, 0b10100100] .res4H, reads [0b11001011, 0b10100101] .res4L,
     reads [0b11001011, 0b10100110] .res4IndHL, reads [0b11001011, 0b10100111] .res4A,
     reads [0b11001011, 0b10101000] .res5B, reads [0b11001011, 0b10101001] .res5C, reads [0b11001011, 0b10101010] .res5D,
     reads [0b11001011, 0b10101011] .res5E, reads [0b11001011, 0b10101100] .res5H, reads [0b11001011, 0b10101101] .res5L,
     reads [0b11001011, 0b10101110] .res5IndHL, reads [0b11001011, 0b10101111] .res5A] ++
    [reads [0b11001011, 0b10110000] .res6B, reads [0b11001011, 0b10110001] .res6C, reads [0b11001011, 0b10110010] .res6D,
     reads [0b11001011, 0b10110011] .res6E, reads [0b11001011, 0b10110100] .res6H, reads [0b11001011, 0b10110101] .res6L,
     reads [0b11001011, 0b10110110] .res6IndHL, reads [0b11001011, 0b10110111] .res6A,
     reads [0b11001011, 0b10111000] .res7B, reads [0b11001011, 0b10111001] .res7C, reads [0b11001011, 0b10111010] .res7D,
     reads [0b11001011, 0b10111011] .res7E, reads [0b11001011, 0b10111100] .res7H, reads [0b11001011, 0b10111101] .res7L,
     reads [0b11001011, 0b10111110] .res7IndHL, reads [0b11001011, 0b10111111] .res7A]).all id = true := by decide +kernel
theorem test_decode_prefixed_C0_to_FF : (
    [reads [0b11001011, 0b11000000] .set0B, reads [0b11001011, 0b11000001] .set0C, reads [0b11001011, 0b11000010] .set0D,
     reads [0b11001011, 0b11000011] .set0E, reads [0b11001011, 0b11000100] .set0H, reads [0b11001011, 0b11000101] .set0L,
     reads [0b11001011, 0b11000110] .set0IndHL, reads [0b11001011, 0b11000111] .set0A,
     reads [0b11001011, 0b11001000] .set1B, reads [0b11001011, 0b11001001] .set1C, reads [0b11001011, 0b11001010] .set1D,
     reads [0b11001011, 0b11001011] .set1E, reads [0b11001011, 0b11001100] .set1H, reads [0b11001011, 0b11001101] .set1L,
     reads [0b11001011, 0b11001110] .set1IndHL, reads [0b11001011, 0b11001111] .set1A] ++
    [reads [0b11001011, 0b11010000] .set2B, reads [0b11001011, 0b11010001] .set2C, reads [0b11001011, 0b11010010] .set2D,
     reads [0b11001011, 0b11010011] .set2E, reads [0b11001011, 0b11010100] .set2H, reads [0b11001011, 0b11010101] .set2L,
     reads [0b11001011, 0b11010110] .set2IndHL, reads [0b11001011, 0b11010111] .set2A,
     reads [0b11001011, 0b11011000] .set3B, reads [0b11001011, 0b11011001] .set3C, reads [0b11001011, 0b11011010] .set3D,
     reads [0b11001011, 0b11011011] .set3E, reads [0b11001011, 0b11011100] .set3H, reads [0b11001011, 0b11011101] .set3L,
     reads [0b11001011, 0b11011110] .set3IndHL, reads [0b11001011, 0b11011111] .set3A] ++
    [reads [0b11001011, 0b11100000] .set4B, reads [0b11001011, 0b11100001] .set4C, reads [0b11001011, 0b11100010] .set4D,
     reads [0b11001011, 0b11100011] .set4E, reads [0b11001011, 0b11100100] .set4H, reads [0b11001011, 0b11100101] .set4L,
     reads [0b11001011, 0b11100110] .set4IndHL, reads [0b11001011, 0b11100111] .set4A,
     reads [0b11001011, 0b11101000] .set5B, reads [0b11001011, 0b11101001] .set5C, reads [0b11001011, 0b11101010] .set5D,
     reads [0b11001011, 0b11101011] .set5E, reads [0b11001011, 0b11101100] .set5H, reads [0b11001011, 0b11101101] .set5L,
     reads [0b11001011, 0b11101110] .set5IndHL, reads [0b11001011, 0b11101111] .set5A] ++
    [reads [0b11001011, 0b11110000] .set6B, reads [0b11001011, 0b11110001] .set6C, reads [0b11001011, 0b11110010] .set6D,
     reads [0b11001011, 0b11110011] .set6E, reads [0b11001011, 0b11110100] .set6H, reads [0b11001011, 0b11110101] .set6L,
     reads [0b11001011, 0b11110110] .set6IndHL, reads [0b11001011, 0b11110111] .set6A,
     reads [0b11001011, 0b11111000] .set7B, reads [0b11001011, 0b11111001] .set7C, reads [0b11001011, 0b11111010] .set7D,
     reads [0b11001011, 0b11111011] .set7E, reads [0b11001011, 0b11111100] .set7H, reads [0b11001011, 0b11111101] .set7L,
     reads [0b11001011, 0b11111110] .set7IndHL, reads [0b11001011, 0b11111111] .set7A]).all id = true := by decide +kernel

/-! ### Single instructions (spec/95 sections 2.1 to 2.7), at most two rows each -/

def rows_load8_1 : List Row :=
  [.mk [0x78] [.r .b 0x5A] [.r .a 0x5A, .f 0x00, .pc 0xC001] 4,
   .mk [0x40] [.r .b 0x77] [.f 0x00, .pc 0xC001] 4,
   .mk [0x3E, 0xFF] [] [.r .a 0xFF, .f 0x00, .pc 0xC002] 8,
   .mk [0x7E] [.r .h 0xC8, .r .l 0x00, .m 0xC800 0x12] [.r .a 0x12, .f 0x00, .pc 0xC001] 8,
   .mk [0x66] [.r .h 0xC8, .r .l 0x00, .m 0xC800 0x9A] [.f 0x00, .r .h 0x9A, .pc 0xC001] 8,
   .mk [0x77] [.r .h 0xC8, .r .l 0x01, .r .a 0x34] [.f 0x00, .pc 0xC001, .m 0xC801 0x34] 8,
   .mk [0x74] [.r .h 0xC8, .r .l 0x02] [.f 0x00, .pc 0xC001, .m 0xC802 0xC8] 8,
   .mk [0x36, 0x99] [.r .h 0xC8, .r .l 0x02] [.f 0x00, .pc 0xC002, .m 0xC802 0x99] 12,
   .mk [0x0A] [.r .b 0xC8, .r .c 0x10, .m 0xC810 0x77] [.r .a 0x77, .f 0x00, .pc 0xC001] 8,
   .mk [0x1A] [.r .d 0xC8, .r .e 0x11, .m 0xC811 0x88] [.r .a 0x88, .f 0x00, .pc 0xC001] 8,
   .mk [0x02] [.r .b 0xC8, .r .c 0x12, .r .a 0x01] [.f 0x00, .pc 0xC001, .m 0xC812 0x01] 8,
   .mk [0x12] [.r .d 0xC8, .r .e 0x13, .r .a 0x02] [.f 0x00, .pc 0xC001, .m 0xC813 0x02] 8,
   .mk [0xFA, 0x34, 0xC2] [.m 0xC234 0x5C] [.r .a 0x5C, .f 0x00, .pc 0xC003] 16,
   .mk [0xEA, 0x00, 0xC1] [.r .a 0x42] [.f 0x00, .pc 0xC003, .m 0xC100 0x42] 16]
def rows_load8_2 : List Row :=
  [.mk [0xF2] [.r .c 0x80, .m 0xFF80 0x6B] [.r .a 0x6B, .f 0x00, .pc 0xC001] 8,
   .mk [0xE2] [.r .c 0x80, .r .a 0x55] [.f 0x00, .pc 0xC001, .m 0xFF80 0x55] 8,
   .mk [0xF0, 0xFF] [.m 0xFFFF 0x15] [.r .a 0x15, .f 0x00, .pc 0xC002] 12,
   .mk [0xE0, 0x47] [.r .a 0xE4] [.f 0x00, .pc 0xC002, .m 0xFF47 0xE4] 12,
   .mk [0x2A] [.r .h 0xC8, .r .l 0x00, .m 0xC800 0x11] [.r .a 0x11, .f 0x00, .r .l 0x01, .pc 0xC001] 8,
   .mk [0x3A] [.r .h 0xC8, .r .l 0x01, .m 0xC801 0x22] [.r .a 0x22, .f 0x00, .r .l 0x00, .pc 0xC001] 8,
   .mk [0x22] [.r .h 0xC8, .r .l 0x00, .r .a 0x33] [.f 0x00, .r .l 0x01, .pc 0xC001, .m 0xC800 0x33] 8,
   .mk [0x32] [.r .h 0xC8, .r .l 0x01, .r .a 0x44] [.f 0x00, .r .l 0x00, .pc 0xC001, .m 0xC801 0x44] 8,
   .mk [0x2A] [.r .h 0xFF, .r .l 0xFF, .m 0xFFFF 0x1F] [.r .a 0x1F, .f 0x00, .r .h 0x00, .r .l 0x00, .pc 0xC001] 8,
   .mk [0x3A] [.r .h 0x00, .r .l 0x00] [.r .a 0x00, .f 0x00, .r .h 0xFF, .r .l 0xFF, .pc 0xC001] 8,
   .mk [0x77] [.r .h 0x20, .r .l 0x00, .r .a 0x05] [.f 0x00, .pc 0xC001] 8,
   .mk [0x7E] [.r .h 0xFE, .r .l 0x00, .m 0xFE00 0x42] [.r .a 0xFF, .f 0x00, .pc 0xC001] 8,
   .mk [0xE0, 0x04] [.r .a 0x77, .m 0xFF04 0x33] [.f 0x00, .pc 0xC002, .m 0xFF04 0x00] 12]
/-- spec/95 section 2.1. -/
theorem test_load8 : (rows_load8_1 ++ rows_load8_2).all Row.holds = true := by decide +kernel

def rows_load16_and_stack_1 : List Row :=
  [.mk [0x21, 0x00, 0xC0] [] [.f 0x00, .r .h 0xC0, .r .l 0x00, .pc 0xC003] 12,
   .mk [0x31, 0x34, 0x12] [] [.f 0x00, .sp 0x1234, .pc 0xC003] 12,
   .mk [0x08, 0x00, 0xC1] [.sp 0xFFF8] [.f 0x00, .pc 0xC003, .m 0xC100 0xF8, .m 0xC101 0xFF] 20,
   .mk [0xF9] [.r .h 0xD0, .r .l 0x00] [.f 0x00, .sp 0xD000, .pc 0xC001] 8,
   .mk [0xF8, 0x02] [.sp 0xFFF8] [.f 0x00, .r .h 0xFF, .r .l 0xFA, .pc 0xC002] 12,
   .mk [0xF8, 0xFF] [.sp 0x0001] [.f 0x30, .r .h 0x00, .r .l 0x00, .pc 0xC002] 12,
   .mk [0xC5] [.r .b 0x12, .r .c 0x34, .sp 0xFFFE] [.f 0x00, .sp 0xFFFC, .pc 0xC001, .m 0xFFFC 0x34, .m 0xFFFD 0x12] 16,
   .mk [0xF5] [.r .a 0x12, .f 0xF0, .sp 0xD000] [.f 0xF0, .sp 0xCFFE, .pc 0xC001, .m 0xCFFE 0xF0, .m 0xCFFF 0x12] 16,
   .mk [0xF1] [.sp 0xFFFC, .m 0xFFFC 0x3F, .m 0xFFFD 0x12] [.r .a 0x12, .f 0x30, .sp 0xFFFE, .pc 0xC001] 12,
   .mk [0xF1] [.sp 0xFFFC, .m 0xFFFC 0xFF, .m 0xFFFD 0x00] [.r .a 0x00, .f 0xF0, .sp 0xFFFE, .pc 0xC001] 12,
   .mk [0xD1] [.sp 0xCFFE, .m 0xCFFE 0xCD, .m 0xCFFF 0xAB] [.f 0x00, .r .d 0xAB, .r .e 0xCD, .sp 0xD000, .pc 0xC001] 12,
   .mk [0xE5] [.r .h 0xBE, .r .l 0xEF, .sp 0x0001] [.f 0x00, .sp 0xFFFF, .pc 0xC001, .m 0xFFFF 0xEF] 16,
   .mk [0x01, 0xCD, 0xAB] [] [.f 0x00, .r .b 0xAB, .r .c 0xCD, .pc 0xC003] 12,
   .mk [0x11, 0xFF, 0x00] [] [.f 0x00, .r .e 0xFF, .pc 0xC003] 12]
def rows_load16_and_stack_2 : List Row :=
  [.mk [0xD5] [.r .d 0xA5, .r .e 0x5A, .sp 0xC100] [.f 0x00, .sp 0xC0FE, .pc 0xC001, .m 0xC0FE 0x5A, .m 0xC0FF 0xA5] 16,
   .mk [0xC1] [.sp 0xC0FE, .m 0xC0FE 0x5A, .m 0xC0FF 0xA5] [.f 0x00, .r .b 0xA5, .r .c 0x5A, .sp 0xC100, .pc 0xC001] 12,
   .mk [0xE1] [.sp 0xFFFF, .m 0xFFFF 0x21] [.f 0x00, .r .h 0x00, .r .l 0x21, .sp 0x0001, .pc 0xC001] 12]
/-- spec/95 section 2.2. -/
theorem test_load16_and_stack : (rows_load16_and_stack_1 ++ rows_load16_and_stack_2).all Row.holds = true := by decide +kernel

def rows_alu8_1 : List Row :=
  [.mk [0x80] [.r .a 0x3A, .r .b 0xC6] [.r .a 0x00, .f 0xB0, .pc 0xC001] 4,
   .mk [0x87] [.r .a 0x80] [.r .a 0x00, .f 0x90, .pc 0xC001] 4,
   .mk [0x80] [.r .a 0xFF, .r .b 0x01] [.r .a 0x00, .f 0xB0, .pc 0xC001] 4,
   .mk [0x86] [.r .a 0x3C, .r .h 0xC8, .r .l 0x00, .m 0xC800 0x12] [.r .a 0x4E, .f 0x00, .pc 0xC001] 8,
   .mk [0xC6, 0xFF] [.r .a 0x3C] [.r .a 0x3B, .f 0x30, .pc 0xC002] 8,
   .mk [0x8B] [.r .a 0xE1, .r .e 0x0F, .f 0x10] [.r .a 0xF1, .f 0x20, .pc 0xC001] 4,
   .mk [0x88] [.r .a 0xFF, .r .b 0x00, .f 0x10] [.r .a 0x00, .f 0xB0, .pc 0xC001] 4,
   .mk [0x88] [.r .a 0x0F, .r .b 0x00, .f 0x10] [.r .a 0x10, .f 0x20, .pc 0xC001] 4,
   .mk [0x8E] [.r .a 0xE1, .r .h 0xC8, .r .l 0x00, .f 0x10, .m 0xC800 0x1E] [.r .a 0x00, .f 0xB0, .pc 0xC001] 8,
   .mk [0xCE, 0x3B] [.r .a 0xE1, .f 0x10] [.r .a 0x1D, .f 0x10, .pc 0xC002] 8,
   .mk [0x93] [.r .a 0x3E, .r .e 0x3E] [.r .a 0x00, .f 0xC0, .pc 0xC001] 4,
   .mk [0x90] [.r .a 0x00, .r .b 0x01] [.r .a 0xFF, .f 0x70, .pc 0xC001] 4,
   .mk [0x97] [.r .a 0x5B] [.r .a 0x00, .f 0xC0, .pc 0xC001] 4,
   .mk [0x96] [.r .a 0x3E, .r .h 0xC8, .r .l 0x00, .m 0xC800 0x40] [.r .a 0xFE, .f 0x50, .pc 0xC001] 8]
def rows_alu8_2 : List Row :=
  [.mk [0xD6, 0x0F] [.r .a 0x3E] [.r .a 0x2F, .f 0x60, .pc 0xC002] 8,
   .mk [0x9C] [.r .a 0x3B, .r .h 0x2A, .f 0x10] [.r .a 0x10, .f 0x40, .pc 0xC001] 4,
   .mk [0x9F] [.r .a 0x77, .f 0x10] [.r .a 0xFF, .f 0x70, .pc 0xC001] 4,
   .mk [0x9F] [.r .a 0x77, .f 0x00] [.r .a 0x00, .f 0xC0, .pc 0xC001] 4,
   .mk [0x98] [.r .a 0x00, .r .b 0xFF, .f 0x10] [.f 0xF0, .pc 0xC001] 4,
   .mk [0x9E] [.r .a 0x3B, .r .h 0xC8, .r .l 0x00, .f 0x10, .m 0xC800 0x4F] [.r .a 0xEB, .f 0x70, .pc 0xC001] 8,
   .mk [0xDE, 0x3A] [.r .a 0x3B, .f 0x10] [.r .a 0x00, .f 0xC0, .pc 0xC002] 8,
   .mk [0xA5] [.r .a 0x5A, .r .l 0x3F] [.r .a 0x1A, .f 0x20, .pc 0xC001] 4,
   .mk [0xA7] [.r .a 0x00] [.f 0xA0, .pc 0xC001] 4,
   .mk [0xA6] [.r .a 0x5A, .r .h 0xC8, .r .l 0x00, .m 0xC800 0x00] [.r .a 0x00, .f 0xA0, .pc 0xC001] 8,
   .mk [0xE6, 0x38] [.r .a 0x5A] [.r .a 0x18, .f 0x20, .pc 0xC002] 8,
   .mk [0xAF] [.r .a 0xFF] [.r .a 0x00, .f 0x80, .pc 0xC001] 4,
   .mk [0xAE] [.r .a 0xFF, .r .h 0xC8, .r .l 0x00, .m 0xC800 0x8A] [.r .a 0x75, .f 0x00, .pc 0xC001] 8,
   .mk [0xEE, 0x0F] [.r .a 0xFF] [.r .a 0xF0, .f 0x00, .pc 0xC002] 8]
def rows_alu8_3 : List Row :=
  [.mk [0xB7] [.r .a 0x5A, .f 0xF0] [.f 0x00, .pc 0xC001] 4,
   .mk [0xB6] [.r .a 0x5A, .r .h 0xC8, .r .l 0x00, .m 0xC800 0x0F] [.r .a 0x5F, .f 0x00, .pc 0xC001] 8,
   .mk [0xF6, 0x03] [.r .a 0x5A] [.r .a 0x5B, .f 0x00, .pc 0xC002] 8,
   .mk [0xB0] [.r .a 0x00, .r .b 0x00] [.f 0x80, .pc 0xC001] 4,
   .mk [0xB8] [.r .a 0x3C, .r .b 0x2F] [.f 0x60, .pc 0xC001] 4,
   .mk [0xBE] [.r .a 0x3C, .r .h 0xC8, .r .l 0x00, .m 0xC800 0x40] [.f 0x50, .pc 0xC001] 8,
   .mk [0xFE, 0x3C] [.r .a 0x3C] [.f 0xC0, .pc 0xC002] 8,
   .mk [0xBF] [.r .a 0x99] [.f 0xC0, .pc 0xC001] 4,
   .mk [0x3C] [.r .a 0xFF, .f 0x00] [.r .a 0x00, .f 0xA0, .pc 0xC001] 4,
   .mk [0x3C] [.r .a 0xFF, .f 0x10] [.r .a 0x00, .f 0xB0, .pc 0xC001] 4,
   .mk [0x04] [.r .b 0x0F, .f 0x10] [.f 0x30, .r .b 0x10, .pc 0xC001] 4,
   .mk [0x34] [.r .h 0xC8, .r .l 0x00, .m 0xC800 0x50] [.f 0x00, .pc 0xC001, .m 0xC800 0x51] 12,
   .mk [0x34] [.r .h 0xC8, .r .l 0x00, .m 0xC800 0xFF] [.f 0xA0, .pc 0xC001, .m 0xC800 0x00] 12,
   .mk [0x2D] [.r .l 0x01, .f 0x10] [.f 0xD0, .r .l 0x00, .pc 0xC001] 4]
def rows_alu8_4 : List Row :=
  [.mk [0x05] [.r .b 0x00] [.f 0x60, .r .b 0xFF, .pc 0xC001] 4,
   .mk [0x05] [.r .b 0x10] [.f 0x60, .r .b 0x0F, .pc 0xC001] 4,
   .mk [0x35] [.r .h 0xC8, .r .l 0x00, .m 0xC800 0x00] [.f 0x60, .pc 0xC001, .m 0xC800 0xFF] 12,
   .mk [0x27] [.r .a 0x7D, .f 0x00] [.r .a 0x83, .f 0x00, .pc 0xC001] 4,
   .mk [0x27] [.r .a 0x9A, .f 0x00] [.r .a 0x00, .f 0x90, .pc 0xC001] 4,
   .mk [0x2F] [.r .a 0x35, .f 0x00] [.r .a 0xCA, .f 0x60, .pc 0xC001] 4,
   .mk [0x2F] [.r .a 0x00, .f 0x90] [.r .a 0xFF, .f 0xF0, .pc 0xC001] 4,
   .mk [0x37] [.f 0xE0] [.f 0x90, .pc 0xC001] 4,
   .mk [0x3F] [.f 0xF0] [.f 0x80, .pc 0xC001] 4,
   .mk [0x3F] [.f 0x80] [.f 0x90, .pc 0xC001] 4,
   .mk [0x0C] [.r .c 0x7F] [.f 0x20, .r .c 0x80, .pc 0xC001] 4,
   .mk [0x3D] [.r .a 0x01, .f 0x10] [.r .a 0x00, .f 0xD0, .pc 0xC001] 4,
   .mk [0x35] [.r .h 0xC8, .r .l 0x00, .f 0x10, .m 0xC800 0x01] [.f 0xD0, .pc 0xC001, .m 0xC800 0x00] 12]
/-- spec/95 section 2.3. -/
theorem test_alu8 : (rows_alu8_1 ++ rows_alu8_2 ++ rows_alu8_3 ++ rows_alu8_4).all Row.holds = true := by decide +kernel

def rows_alu16_1 : List Row :=
  [.mk [0x09] [.r .h 0x8A, .r .l 0x23, .r .b 0x06, .r .c 0x05, .f 0x80] [.f 0xA0, .r .h 0x90, .r .l 0x28, .pc 0xC001] 8,
   .mk [0x29] [.r .h 0x8A, .r .l 0x23] [.f 0x30, .r .h 0x14, .r .l 0x46, .pc 0xC001] 8,
   .mk [0x39] [.r .h 0x00, .r .l 0x01, .sp 0xFFFF, .f 0xC0] [.f 0xB0, .r .l 0x00, .pc 0xC001] 8,
   .mk [0x19] [.r .h 0x0F, .r .l 0xFF, .r .d 0x00, .r .e 0x01] [.f 0x20, .r .h 0x10, .r .l 0x00, .pc 0xC001] 8,
   .mk [0x13] [.r .d 0x23, .r .e 0x5F] [.f 0x00, .r .e 0x60, .pc 0xC001] 8,
   .mk [0x23] [.r .h 0xFF, .r .l 0xFF, .f 0x00] [.f 0x00, .r .h 0x00, .r .l 0x00, .pc 0xC001] 8,
   .mk [0x0B] [.r .b 0x01, .r .c 0x00] [.f 0x00, .r .b 0x00, .r .c 0xFF, .pc 0xC001] 8,
   .mk [0x3B] [.sp 0x0000, .f 0xF0] [.f 0xF0, .sp 0xFFFF, .pc 0xC001] 8,
   .mk [0xE8, 0xFE] [.sp 0xFFF8] [.f 0x30, .sp 0xFFF6, .pc 0xC002] 16,
   .mk [0xE8, 0x01] [.sp 0xFFFF, .f 0xC0] [.f 0x30, .sp 0x0000, .pc 0xC002] 16,
   .mk [0x33] [.sp 0xFFFF] [.f 0x00, .sp 0x0000, .pc 0xC001] 8,
   .mk [0x03] [.r .b 0x00, .r .c 0xFF, .f 0xF0] [.f 0xF0, .r .b 0x01, .r .c 0x00, .pc 0xC001] 8,
   .mk [0x2B] [.r .h 0x00, .r .l 0x00] [.f 0x00, .r .h 0xFF, .r .l 0xFF, .pc 0xC001] 8,
   .mk [0x1B] [.r .d 0x10, .r .e 0x00] [.f 0x00, .r .d 0x0F, .r .e 0xFF, .pc 0xC001] 8]
/-- spec/95 section 2.4. -/
theorem test_alu16 : (rows_alu16_1).all Row.holds = true := by decide +kernel

def rows_rotate_shift_bit_1 : List Row :=
  [.mk [0x07] [.r .a 0x85] [.r .a 0x0B, .f 0x10, .pc 0xC001] 4,
   .mk [0x07] [.r .a 0x00, .f 0xF0] [.f 0x00, .pc 0xC001] 4,
   .mk [0x0F] [.r .a 0x3B] [.r .a 0x9D, .f 0x10, .pc 0xC001] 4,
   .mk [0x17] [.r .a 0x95, .f 0x10] [.r .a 0x2B, .f 0x10, .pc 0xC001] 4,
   .mk [0x17] [.r .a 0x80, .f 0x00] [.r .a 0x00, .f 0x10, .pc 0xC001] 4,
   .mk [0x1F] [.r .a 0x81, .f 0x00] [.r .a 0x40, .f 0x10, .pc 0xC001] 4,
   .mk [0x1F] [.r .a 0x00, .f 0x10] [.r .a 0x80, .f 0x00, .pc 0xC001] 4,
   .mk [0xCB, 0x00] [.r .b 0x85] [.f 0x10, .r .b 0x0B, .pc 0xC002] 8,
   .mk [0xCB, 0x07] [.r .a 0x00] [.f 0x80, .pc 0xC002] 8,
   .mk [0xCB, 0x06] [.r .h 0xC8, .r .l 0x00, .m 0xC800 0x00] [.f 0x80, .pc 0xC002] 16,
   .mk [0xCB, 0x09] [.r .c 0x01] [.f 0x10, .r .c 0x80, .pc 0xC002] 8,
   .mk [0xCB, 0x0E] [.r .h 0xC8, .r .l 0x00, .m 0xC800 0x02] [.f 0x00, .pc 0xC002, .m 0xC800 0x01] 16,
   .mk [0xCB, 0x15] [.r .l 0x80, .f 0x00] [.f 0x90, .r .l 0x00, .pc 0xC002] 8,
   .mk [0xCB, 0x16] [.r .h 0xC8, .r .l 0x00, .f 0x00, .m 0xC800 0x11] [.f 0x00, .pc 0xC002, .m 0xC800 0x22] 16]
def rows_rotate_shift_bit_2 : List Row :=
  [.mk [0xCB, 0x1F] [.r .a 0x01, .f 0x00] [.r .a 0x00, .f 0x90, .pc 0xC002] 8,
   .mk [0xCB, 0x18] [.r .b 0x00, .f 0x10] [.f 0x00, .r .b 0x80, .pc 0xC002] 8,
   .mk [0xCB, 0x1E] [.r .h 0xC8, .r .l 0x00, .f 0x00, .m 0xC800 0x8A] [.f 0x00, .pc 0xC002, .m 0xC800 0x45] 16,
   .mk [0xCB, 0x22] [.r .d 0x80] [.f 0x90, .r .d 0x00, .pc 0xC002] 8,
   .mk [0xCB, 0x26] [.r .h 0xC8, .r .l 0x00, .m 0xC800 0xFF] [.f 0x10, .pc 0xC002, .m 0xC800 0xFE] 16,
   .mk [0xCB, 0x2F] [.r .a 0x8A] [.r .a 0xC5, .f 0x00, .pc 0xC002] 8,
   .mk [0xCB, 0x28] [.r .b 0x01] [.f 0x90, .r .b 0x00, .pc 0xC002] 8,
   .mk [0xCB, 0x28] [.r .b 0xFF] [.f 0x10, .pc 0xC002] 8,
   .mk [0xCB, 0x2E] [.r .h 0xC8, .r .l 0x00, .m 0xC800 0x01] [.f 0x90, .pc 0xC002, .m 0xC800 0x00] 16,
   .mk [0xCB, 0x37] [.r .a 0xF1] [.r .a 0x1F, .f 0x00, .pc 0xC002] 8,
   .mk [0xCB, 0x36] [.r .h 0xC8, .r .l 0x00, .f 0x10, .m 0xC800 0x00] [.f 0x80, .pc 0xC002] 16,
   .mk [0xCB, 0x3F] [.r .a 0x01] [.r .a 0x00, .f 0x90, .pc 0xC002] 8,
   .mk [0xCB, 0x3E] [.r .h 0xC8, .r .l 0x00, .m 0xC800 0xFF] [.f 0x10, .pc 0xC002, .m 0xC800 0x7F] 16,
   .mk [0xCB, 0x7F] [.r .a 0x80, .f 0x10] [.f 0x30, .pc 0xC002] 8]
def rows_rotate_shift_bit_3 : List Row :=
  [.mk [0xCB, 0x7F] [.r .a 0x7F, .f 0x10] [.f 0xB0, .pc 0xC002] 8,
   .mk [0xCB, 0x46] [.r .h 0xC8, .r .l 0x00, .m 0xC800 0xFE] [.f 0xA0, .pc 0xC002] 12,
   .mk [0xCB, 0x5E] [.r .h 0xC8, .r .l 0x00, .f 0xD0, .m 0xC800 0x08] [.f 0x30, .pc 0xC002] 12,
   .mk [0xCB, 0xBF] [.r .a 0x80, .f 0xF0] [.r .a 0x00, .f 0xF0, .pc 0xC002] 8,
   .mk [0xCB, 0x9E] [.r .h 0xC8, .r .l 0x00, .m 0xC800 0xFF] [.f 0x00, .pc 0xC002, .m 0xC800 0xF7] 16,
   .mk [0xCB, 0xDF] [.r .a 0x80] [.r .a 0x88, .f 0x00, .pc 0xC002] 8,
   .mk [0xCB, 0xFE] [.r .h 0xC8, .r .l 0x00, .m 0xC800 0x00] [.f 0x00, .pc 0xC002, .m 0xC800 0x80] 16,
   .mk [0xCB, 0xC6] [.r .h 0xFF, .r .l 0x04, .m 0xFF04 0x5A] [.f 0x00, .pc 0xC002, .m 0xFF04 0x00] 16,
   .mk [0xCB, 0x40] [.r .b 0x01, .f 0x10] [.f 0x30, .pc 0xC002] 8,
   .mk [0xCB, 0x78] [.r .b 0x80, .f 0x00] [.f 0x20, .pc 0xC002] 8,
   .mk [0xCB, 0x87] [.r .a 0xFF] [.r .a 0xFE, .f 0x00, .pc 0xC002] 8,
   .mk [0xCB, 0xF8] [.r .b 0x00] [.f 0x00, .r .b 0x80, .pc 0xC002] 8,
   .mk [0xCB, 0x30] [.r .b 0xA5, .f 0xF0] [.f 0x00, .r .b 0x5A, .pc 0xC002] 8,
   .mk [0xCB, 0x38] [.r .b 0x80, .f 0xF0] [.f 0x00, .r .b 0x40, .pc 0xC002] 8]
def rows_rotate_shift_bit_4 : List Row :=
  [.mk [0xCB, 0x20] [.r .b 0x40, .f 0xF0] [.f 0x00, .r .b 0x80, .pc 0xC002] 8,
   .mk [0xCB, 0x08] [.r .b 0x00, .f 0xF0] [.f 0x80, .pc 0xC002] 8,
   .mk [0xCB, 0x10] [.r .b 0x7F, .f 0x10] [.f 0x00, .r .b 0xFF, .pc 0xC002] 8]
/-- spec/95 section 2.5. -/
theorem test_rotate_shift_bit : (rows_rotate_shift_bit_1 ++ rows_rotate_shift_bit_2 ++ rows_rotate_shift_bit_3 ++ rows_rotate_shift_bit_4).all Row.holds = true := by decide +kernel

def rows_control_1 : List Row :=
  [.mk [0xC3, 0x50, 0x01] [] [.f 0x00, .pc 0x0150] 16,
   .mk [0xCA, 0x00, 0x80] [.pc 0x0200, .f 0x80] [.f 0x80, .pc 0x8000] 16,
   .mk [0xCA, 0x00, 0x80] [.pc 0x0200, .f 0x00] [.f 0x00, .pc 0x0203] 12,
   .mk [0xD2, 0x34, 0x12] [.f 0x10] [.f 0x10, .pc 0xC003] 12,
   .mk [0xE9] [.r .h 0xC1, .r .l 0x23] [.f 0x00, .pc 0xC123] 4,
   .mk [0x18, 0x05] [.pc 0x0100] [.f 0x00, .pc 0x0107] 12,
   .mk [0x18, 0xFB] [.pc 0x0100] [.f 0x00, .pc 0x00FD] 12,
   .mk [0x20, 0xFC] [.pc 0x0150, .f 0x00] [.f 0x00, .pc 0x014E] 12,
   .mk [0x20, 0xFC] [.pc 0x0150, .f 0x80] [.f 0x80, .pc 0x0152] 8,
   .mk [0x38, 0x10] [.f 0x10] [.f 0x10, .pc 0xC012] 12,
   .mk [0xCD, 0x00, 0x20] [.pc 0x0150, .sp 0xFFFE] [.f 0x00, .sp 0xFFFC, .pc 0x2000, .m 0xFFFC 0x53, .m 0xFFFD 0x01] 24,
   .mk [0xDC, 0x34, 0x12] [.pc 0x0300, .f 0x00, .sp 0xD000] [.f 0x00, .pc 0x0303] 12,
   .mk [0xC4, 0x34, 0x12] [.pc 0x0300, .f 0x00, .sp 0xD000] [.f 0x00, .sp 0xCFFE, .pc 0x1234, .m 0xCFFE 0x03, .m 0xCFFF 0x03] 24,
   .mk [0xC9] [.sp 0xFFFC, .m 0xFFFC 0x53, .m 0xFFFD 0x01] [.f 0x00, .sp 0xFFFE, .pc 0x0153] 16]
def rows_control_2 : List Row :=
  [.mk [0xC8] [.f 0x00, .sp 0xD000] [.f 0x00, .pc 0xC001] 8,
   .mk [0xC8] [.f 0x80, .sp 0xCFFE, .m 0xCFFE 0x34, .m 0xCFFF 0x12] [.f 0x80, .sp 0xD000, .pc 0x1234] 20,
   .mk [0xEF] [.pc 0x0234, .sp 0xD000] [.f 0x00, .sp 0xCFFE, .pc 0x0028, .m 0xCFFE 0x35, .m 0xCFFF 0x02] 16,
   .mk [0xFF] [.sp 0xD000] [.f 0x00, .sp 0xCFFE, .pc 0x0038, .m 0xCFFE 0x01, .m 0xCFFF 0xC0] 16,
   .mk [0xC7] [.sp 0xD000] [.f 0x00, .sp 0xCFFE, .pc 0x0000, .m 0xCFFE 0x01, .m 0xCFFF 0xC0] 16,
   .mk [0xC2, 0x34, 0x12] [.f 0x00] [.f 0x00, .pc 0x1234] 16,
   .mk [0xC2, 0x34, 0x12] [.f 0x80] [.f 0x80, .pc 0xC003] 12,
   .mk [0xD2, 0x34, 0x12] [.f 0x00] [.f 0x00, .pc 0x1234] 16,
   .mk [0xDA, 0x34, 0x12] [.f 0x00] [.f 0x00, .pc 0xC003] 12,
   .mk [0xDA, 0x34, 0x12] [.f 0x10] [.f 0x10, .pc 0x1234] 16,
   .mk [0x30, 0x02] [.f 0xE0] [.f 0xE0, .pc 0xC004] 12,
   .mk [0x28, 0x02] [.f 0x70] [.f 0x70, .pc 0xC002] 8,
   .mk [0xD0] [.f 0x10, .sp 0xD000] [.f 0x10, .pc 0xC001] 8,
   .mk [0xD8] [.f 0x10, .sp 0xCFFE, .m 0xCFFE 0x00, .m 0xCFFF 0x80] [.f 0x10, .sp 0xD000, .pc 0x8000] 20]
def rows_control_3 : List Row :=
  [.mk [0xCC, 0x00, 0xD0] [.f 0x80, .sp 0xD000] [.f 0x80, .sp 0xCFFE, .pc 0xD000, .m 0xCFFE 0x03, .m 0xCFFF 0xC0] 24]
/-- spec/95 section 2.6. -/
theorem test_control : (rows_control_1 ++ rows_control_2 ++ rows_control_3).all Row.holds = true := by decide +kernel

def rows_misc_1 : List Row :=
  [.mk [0x00] [.f 0xF0] [.f 0xF0, .pc 0xC001] 4,
   .mk [0xF3] [.ime false] [.f 0x00, .pc 0xC001] 4,
   .mk [0xFB] [.ime true] [.f 0x00, .pc 0xC001] 4]
/-- spec/95 section 2.7. -/
theorem test_misc : (rows_misc_1).all Row.holds = true := by decide +kernel


/-! ### Step scenarios (spec/95 section 3) -/

/-- The interrupt state of a scenario. -/
def withIrq (s : State) (ime : Bool) (ie iflags : Byte) : State :=
  { s with irq := { s.irq with ime := ime, enable := ie, flags := iflags } }

/-- S1, step 1: HALT with the global enable clear sets the quirk and does not halt. S14, step 2: HALT with the global enable set halts. -/
theorem test_halt :
    after (start [0x76, 0x3C] [.pc 0x0200])
    (fun t => t.ctl.haltBug && !t.ctl.halted && decide (t.regs.pc = 0x0201) && decide (t.ctl.cycleClock = 4)) = true ∧
    after (start [0x76] [.ime true])
    (fun t => t.ctl.halted && !t.ctl.haltBug && decide (t.regs.pc = 0xC001) && decide (t.ctl.cycleClock = 4)) = true := by decide +kernel
/-- S7: with video-blank and timer pending and enabled, video-blank is served and only its bit is cleared. S7b and S7c: display-status before the rest; the input source, with the unused bits untouched. S8: bit 3 is no source. -/
theorem test_sources :
    after (withIrq (start [0x00] [.sp 0xD000]) true 0x05 0x05)
    (fun t => decide (t.regs.pc = 0x0040) && decide (t.irq.flags = 0x04) && decide (t.ctl.cycleClock = 9)) = true ∧
    after (withIrq (start [0x00] [.sp 0xD000]) true 0x1F 0x1E)
      (fun t => decide (t.regs.pc = 0x0048) && decide (t.irq.flags = 0x1C)) = true ∧
    after (withIrq (start [0x00] [.sp 0xD000]) true 0x10 0xF0)
      (fun t => decide (t.regs.pc = 0x0060) && decide (t.irq.flags = 0xE0)) = true ∧
    after (withIrq (start [0x00] []) true 0x08 0x08)
    (fun t => decide (t.regs.pc = 0xC001) && t.irq.ime && decide (t.irq.flags = 0x08)) = true := by decide +kernel
/-- S2: an enabled interrupt is dispatched at the end of the step of DI. S3, step 1: EI's request is not yet in effect. S9, step 1: RETI requests the global enable and does not set it. -/
theorem test_enable_requests :
    after (withIrq (start [0xF3] [.sp 0xD000]) true 0x04 0x04)
    (fun t => decide (t.regs.pc = 0x0050) && decide (t.regs.sp = 0xCFFE) && decide (t.irq.flags = 0x00) && !t.irq.ime &&
      decide (t.irq.pipe0 = some false) && decide (t.memRead 0xCFFF = 0xC0) && decide (t.memRead 0xCFFE = 0x01) &&
      decide (t.ctl.cycleClock = 9)) = true ∧
    after (withIrq (start [0xFB] [.sp 0xD000]) false 0x01 0x01)
    (fun t => decide (t.regs.pc = 0xC001) && !t.irq.ime && decide (t.irq.pipe0 = some true) &&
      decide (t.ctl.cycleClock = 4)) = true ∧
    after (withIrq (start [0xD9] [.sp 0xCFFE, .m 0xCFFE 0x10, .m 0xCFFF 0xC0]) false 0x04 0x04)
    (fun t => decide (t.regs.pc = 0xC010) && decide (t.regs.sp = 0xD000) && !t.irq.ime && decide (t.irq.pipe0 = some true) &&
      decide (t.ctl.cycleClock = 16)) = true := by decide +kernel
/-- S10 and S11: an unimplemented opcode and STOP: the fault, PC at the opcode, no cycle. -/
theorem test_unimplemented :
    after (start [0xDD] [.r .a 0x12]) (fun t => decide (t.ctl.fault = some (.unimplementedOpcode 0xDD 0xC000)) &&
      decide (t.regs.pc = 0xC000) && decide (t.ctl.cycleClock = 0) && decide (t.regs.a = 0x12)) = true ∧
    after (start [0x10, 0x00] [.pc 0x0150]) (fun t => decide (t.ctl.fault = some (.unimplementedOpcode 0x10 0x0150)) &&
      decide (t.regs.pc = 0x0150) && decide (t.ctl.cycleClock = 0)) = true := by decide +kernel
/-- S12, step 2: under the halt quirk the prefix is its own second byte: `CB CB` is SET 1,E. S13, step 2: under the halt quirk LD A,n takes its own opcode as the operand. -/
theorem test_quirk :
    after { start [0xCB, 0x37] [.r .e 0x00] with ctl := { State.reset.ctl with haltBug := true } }
      (fun t => decide (t.regs.e = 0x02) && decide (t.regs.pc = 0xC001) && decide (t.ctl.cycleClock = 8)) = true ∧
    after { start [0x3E, 0x14] [] with ctl := { State.reset.ctl with haltBug := true } }
      (fun t => decide (t.regs.a = 0x3E) && decide (t.regs.pc = 0xC001) && !t.ctl.haltBug) = true := by decide +kernel

/-! ### Timers (spec/95 section 4) -/

def timer0 : Timer := State.reset.timer
/-- T1 and T4: DIV and the cycles carried on. T6 and T10: three overflows in one tick; one increment with a rest. T8: sixty-two increments at once. -/
theorem test_timers :
    timerTick 300 timer0 = ({ timer0 with div := 0x01, divCounter := 44 }, 0) ∧
    timerTick 12 { timer0 with divCounter := 250 } = ({ timer0 with div := 0x01, divCounter := 6 }, 0) ∧
    (timerTick 48 { timer0 with tac := 0x05, tima := 0xFF, tma := 0xFF }).1.tima = 0xFF ∧
    (timerTick 48 { timer0 with tac := 0x05, tima := 0xFF, tma := 0xFF }).2 = 0x04 ∧
    (timerTick 29 { timer0 with tac := 0x05, tima := 0xFE, tma := 0xF0 }).1.tima = 0xFF ∧
    (timerTick 29 { timer0 with tac := 0x05, tima := 0xFE, tma := 0xF0 }).1.timaCounter = 13 ∧
    (timerTick 4 { timer0 with tac := 0x05, timaCounter := 1000 }).1.tima = 0x3E ∧
    (timerTick 4 { timer0 with tac := 0x05, timaCounter := 1000 }).1.timaCounter = 12 := by decide +kernel

/-! ### The PPU (spec/95 section 5) -/

/-- Section 5.1: mode, line and accumulator after a number of cycles from reset. -/
def ppuAt (n : Nat) : PpuMode × Byte × Nat × Byte :=
  let r := ppuTick [] n Ppu.reset
  (r.1.mode, r.1.ly, r.1.acc, r.2)
theorem test_sequencer : ppuAt 79 = (.oamScan, 0, 79, 0x00) ∧ ppuAt 80 = (.drawing, 0, 0, 0x00) ∧ ppuAt 251 = (.drawing, 0, 171, 0x00) ∧
    ppuAt 252 = (.hBlank, 0, 0, 0x00) ∧ ppuAt 455 = (.hBlank, 0, 203, 0x00) ∧ ppuAt 456 = (.oamScan, 1, 0, 0x00) ∧
    ppuAt 500 = (.oamScan, 1, 44, 0x00) := by decide
/-- Section 5.1 at the end of the visible lines. -/
theorem test_vblank_entry :
    let p : Ppu := { Ppu.reset with mode := .hBlank, ly := 143, acc := 203 }
    let r := ppuTick [] 1 p
    (r.1.mode, r.1.ly, r.1.acc, r.2) = (.vBlank, 144, 0, 0x01) := by decide
/-- Q1, Q3: the HBlank and OAMScan events. -/
theorem test_stat_events :
    (ppuTick [] 252 { Ppu.reset with stat := 0x08, lyc := 1 }).2 = 0x02 ∧
    (ppuTick [] 456 { Ppu.reset with stat := 0x20, lyc := 1 }).2 = 0x02 ∧
    (ppuTick [] 455 { Ppu.reset with stat := 0x20, lyc := 1 }).2 = 0x00 := by decide
/-- Section 5.4: blocking by mode. -/
theorem test_blocking :
    let s := poke (poke State.reset 0x8000 0x12) 0xFE00 0x34
    let inMode (m : PpuMode) : State := { s with ppu := { s.ppu with mode := m } }
    ((inMode .oamScan).memRead 0x8000, (inMode .oamScan).memRead 0xFE00) = (0x12, 0xFF) ∧
    ((inMode .drawing).memRead 0x8000, (inMode .drawing).memRead 0xFE00) = (0xFF, 0xFF) ∧
    ((inMode .hBlank).memRead 0x8000, (inMode .hBlank).memRead 0xFE00) = (0x12, 0x34) := by decide

/-- The shades of the first pixels of a line. -/
def shades (m : Memory) (p : Ppu) (ly n : Nat) : List Nat := (List.range n).map (fun x => (linePixel m p ly x).toNat)
/-- A memory from pokes. -/
def memOf (l : List (Nat × Byte)) : Memory := l.foldl (fun m c => Memory.write m c.1 c.2) []
def bgMem : Memory := memOf [(0x8010, 0x3C), (0x8011, 0x7E), (0x8012, 0xFF), (0x9800, 0x01)]
def bgPpu : Ppu := { Ppu.reset with lcdc := 0x91, bgp := 0xE4 }
/-- B1, B4, B5. -/
theorem test_background : shades bgMem bgPpu 0 16 = [0, 2, 3, 3, 3, 3, 2, 0, 0, 0, 0, 0, 0, 0, 0, 0] ∧
    shades bgMem { bgPpu with scx := 0x03 } 0 8 = [3, 3, 3, 2, 0, 0, 0, 0] ∧
    shades bgMem { bgPpu with scy := 0xFF } 1 8 = [0, 2, 3, 3, 3, 3, 2, 0] := by decide
/-- B8: signed tile data. -/
theorem test_signed_tiles :
    shades (memOf [(0x8800, 0xF0), (0x9800, 0x80)]) { bgPpu with lcdc := 0x81 } 0 8 = [1, 1, 1, 1, 0, 0, 0, 0] := by decide
/-- W1, W3. -/
theorem test_window :
    let m := memOf [(0x8020, 0xFF), (0x9C00, 0x02)]
    let p : Ppu := { bgPpu with lcdc := 0xF1 }
    shades m { p with wx := 0x0B } 0 16 = [0, 0, 0, 0, 1, 1, 1, 1, 1, 1, 1, 1, 0, 0, 0, 0] ∧
    shades m { p with wx := 0x07, wy := 0x01 } 0 8 = [0, 0, 0, 0, 0, 0, 0, 0] := by decide
def spriteMem (l : List (Nat × Byte)) : Memory :=
  memOf ([(0x8010, 0xF0), (0x8011, 0xCC), (0x8012, 0xFF), (0x801E, 0x01)] ++ l)
def spritePpu : Ppu := { Ppu.reset with lcdc := 0x93, bgp := 0xE4, obp0 := 0xE4, obp1 := 0x1B }
/-- SP2, SP3: horizontal and vertical flip. -/
theorem test_sprite_flips :
    shades (spriteMem [(0xFE00, 0x10), (0xFE01, 0x08), (0xFE02, 0x01), (0xFE03, 0x20)]) spritePpu 0 10 =
      [0, 0, 2, 2, 1, 1, 3, 3, 0, 0] ∧
    shades (spriteMem [(0xFE00, 0x10), (0xFE01, 0x08), (0xFE02, 0x01), (0xFE03, 0x40)]) spritePpu 0 10 =
      [0, 0, 0, 0, 0, 0, 0, 1, 0, 0] := by decide
/-- SP8, SP10: equal Y, the later entry overwrites; the lower Y overwrites. -/
theorem test_sprite_priority :
    shades (spriteMem [(0xFE00, 0x10), (0xFE01, 0x08), (0xFE02, 0x01), (0xFE04, 0x10), (0xFE05, 0x0A), (0xFE06, 0x01),
      (0xFE07, 0x10)]) spritePpu 0 12 = [3, 3, 0, 0, 2, 2, 1, 1, 0, 0, 0, 0] ∧
    shades (spriteMem [(0xFE00, 0x10), (0xFE01, 0x0A), (0xFE02, 0x01), (0xFE03, 0x10), (0xFE04, 0x0F), (0xFE05, 0x08),
      (0xFE06, 0x01)]) spritePpu 0 12 = [1, 1, 1, 1, 1, 1, 1, 1, 0, 0, 0, 0] := by decide
/-- SP11: sixteen lines, tile bit 0 ignored. -/
theorem test_tall_sprite :
    shades (memOf [(0x8030, 0xFF), (0x8031, 0xFF), (0xFE00, 0x10), (0xFE01, 0x08), (0xFE02, 0x03)])
      { spritePpu with lcdc := 0x97 } 8 10 = [3, 3, 3, 3, 3, 3, 3, 3, 0, 0] := by decide

/-! ### The sound unit (spec/95 section 6) -/

/-- Bus writes in order. -/
def writes (s : State) (l : List (Word × Byte)) : State := l.foldl (fun s c => s.memWrite c.1 c.2) s
def apuAfter (n : Nat) (s : State) : Apu := apuTick s.plat.noiseReseed n s.apu
/-- Section 6.1. -/
theorem test_trigger :
    let s := writes State.reset [(0xFF14, 0x80)]
    s.apu.ch0.active = true ∧ s.apu.ch0.volume = 15 ∧ s.apu.ch0.restart = true ∧ s.memRead 0xFF26 = 0xF1 ∧
    (apuAfter 4 s).ch0.envPeriod = 3 ∧ (apuAfter 4 s).ch0.length = 64 ∧ (apuAfter 4 s).ch0.freqTimer = 4 := by decide
/-- Section 6.2: the period of a pulse channel and its output. -/
theorem test_pulse :
    let s := writes State.reset [(0xFF11, 0x80), (0xFF12, 0xF0), (0xFF13, 0xD6), (0xFF14, 0x86), (0xFF25, 0x11), (0xFF24, 0x77)]
    s.apu.period .ch0 = 1192 ∧ (apuAfter 4 s).mix [] = (120, 120) ∧
    (apuAfter 1192 s).ch0.phase = 1 ∧ (apuAfter 1192 s).mix [] = (-120, -120) := by decide
/-- Section 6.3: the sweep at sequencer step 2, and its overflow. -/
theorem test_sweep :
    let a := { (writes State.reset [(0xFF10, 0x11), (0xFF12, 0xF0), (0xFF13, 0x00), (0xFF14, 0x84)]).apu with seqStep := 2 }
    a.seqStepClock.ch0.freq = 1536 ∧ { a.seqStepClock with seqStep := 6 }.seqStepClock.ch0.active = false ∧
    { a.seqStepClock with seqStep := 6 }.seqStepClock.ch0.freq = 1536 := by decide
/-- L1: the length counter silences the channel. -/
theorem test_length :
    let s := writes State.reset [(0xFF11, 0x3F), (0xFF14, 0xC0)]
    s.apu.ch0.length = 1 ∧ (apuAfter 8191 s).ch0.active = true ∧ (apuAfter 8192 s).ch0.active = false := by decide
/-- Section 6.7: the first values of the noise register in both widths. -/
theorem test_noise : lfsrClock false 0x7FFF = 0x3FFF ∧ lfsrClock false 0x0001 = 0x4000 ∧ lfsrClock true 0x7FFF = 0x3FBF ∧
    lfsrClock true 0x0181 = 0x40C0 := by decide
/-- Section 6.6: the wave output by level. -/
theorem test_wave :
    let s := writes State.reset [(0xFF30, 0x0F), (0xFF1A, 0x80), (0xFF1C, 0x20), (0xFF1D, 0x00), (0xFF1E, 0x84)]
    s.apu.period .ch2 = 2048 ∧ (apuAfter 4 s).out s.mem .ch2 = 0 ∧ (apuAfter 2048 s).out s.mem .ch2 = 15 := by decide
/-- Section 6.8. -/
theorem test_mixer :
    let s := writes State.reset [(0xFF11, 0x80), (0xFF12, 0xF0), (0xFF14, 0x87), (0xFF16, 0x80), (0xFF17, 0xA0), (0xFF19, 0x87),
      (0xFF25, 0x12), (0xFF24, 0x73)]
    (apuAfter 4 s).mix [] = (120, 40) := by decide
/-- G1 to G3 and G6: the power gate. -/
theorem test_power_gate :
    let s := writes State.reset [(0xFF26, 0x00), (0xFF14, 0x80), (0xFF12, 0x55), (0xFF30, 0xAB)]
    s.memRead 0xFF26 = 0x00 ∧ s.memRead 0xFF14 = 0xBF ∧ s.memRead 0xFF12 = 0xF3 ∧ s.memRead 0xFF30 = 0xAB ∧
    (writes State.reset [(0xFF26, 0x7F)]).memRead 0xFF26 = 0x70 := by decide

/-! ### The bus (spec/95 section 7) -/

/-- Sixteen banks, the first byte of bank b is b (b up to 5 listed), 8 KiB of RAM. -/
def bankedPlatform : Platform :=
  { Platform.default with
    cart := { kind := .banked, rom := [(0x4000, 1), (0x8000, 2), (0xC000, 3), (0x10000, 4), (0x14000, 5)], romSize := 0x40000,
              bankCount := 16, ramSize := 0x2000 } }
def banked : State := State.resetOn bankedPlatform
/-- M4 to M8. M10 to M13. -/
theorem test_bank_controller :
    (writes banked [(0x2000, 0x05)]).memRead 0x4000 = 0x05 ∧ (writes banked [(0x2000, 0x00)]).memRead 0x4000 = 0x01 ∧
    (writes banked [(0x3FFF, 0xE5)]).bank.romBank = 5 ∧ (writes banked [(0x2000, 0x15)]).bank.romBank = 5 ∧
    (writes banked [(0x2000, 0x15)]).bank.outOfRangeReports = 1 ∧ (writes banked [(0x2000, 0x10)]).bank.romBank = 1 ∧
    banked.memRead 0xA000 = 0xFF ∧ (writes banked [(0x0000, 0x0A), (0xA000, 0x77)]).memRead 0xA000 = 0x77 ∧
    (writes banked [(0x0000, 0x0A), (0xA000, 0x77), (0x1FFF, 0x1B)]).memRead 0xA000 = 0xFF ∧
    (writes banked [(0x0000, 0x3A)]).bank.ramEnable = true := by decide
/-- M14: the DMA copy, from work RAM and from its echo. -/
theorem test_dma :
    let s := poke (poke State.reset 0xC100 0x11) 0xC19F 0x9F
    Memory.read (s.memWrite 0xFF46 0xC1).mem 0xFE00 = 0x11 ∧ Memory.read (s.memWrite 0xFF46 0xC1).mem 0xFE9F = 0x9F ∧
    Memory.read (s.memWrite 0xFF46 0xE1).mem 0xFE9F = 0x9F := by decide +kernel
/-- M15 to M15c: the input register. -/
theorem test_input :
    let pressed (m : Byte) : State := State.reset.setInput m
    State.reset.memRead 0xFF00 = 0xCF ∧ (writes State.reset [(0xFF00, 0x20)]).memRead 0xFF00 = 0x2F ∧
    (writes (pressed 0x01) [(0xFF00, 0x20)]).memRead 0xFF00 = 0x2E ∧
    (writes (pressed 0x81) [(0xFF00, 0x10)]).memRead 0xFF00 = 0x17 ∧
    (writes (pressed 0x81) [(0xFF00, 0x00)]).memRead 0xFF00 = 0x06 ∧ (pressed 0x81).irq.flags = 0x10 := by decide
/-- M18, M20, M21, M17. -/
theorem test_plain_and_masked_registers :
    (State.reset.memWrite 0xFF41 0xFF).memRead 0xFF41 = 0xFE ∧ (State.reset.memWrite 0xFF0F 0xFF).memRead 0xFF0F = 0xFF ∧
    (State.reset.memWrite 0xFF03 0x42).memRead 0xFF03 = 0x42 ∧ (State.reset.memWrite 0xFEA0 0x5A).memRead 0xFEA0 = 0x5A := by
  decide
/-- M9, the third step: the boot image is unmapped when a step begins with PC at 0x0100. -/
theorem test_boot_unmapped :
    let p : Platform := { Platform.default with
      bootImage := some (Vector.replicate 256 0x31), cart := { Platform.default.cart with rom := [(0, 0xC3)] } }
    let s := State.resetOn p
    s.memRead 0x0000 = 0x31 ∧
    after { s with regs := { s.regs with pc := 0x0100 } } (fun t => decide (t.memRead 0x0000 = 0xC3)) = true := by decide

/-! ### Witnesses: states and operands that meet the hypotheses of the obligations -/

open Machine.Laws

/-- A byte of plain storage behind an address, in the state right after reset. -/
def stored (a : Word) (n : Nat) : Bool := decide (State.reset.storageAt a = some (.image n))
/-- The PPU of the reset state in another mode. -/
def inMode (m : PpuMode) : State := { State.reset with ppu := { Ppu.reset with mode := m } }

/-- For every statement with a store: plain storage at the boundaries of each region that has it, some behind two addresses. -/
theorem witness_storage : stored 0x8000 0x8000 = true ∧ stored 0x9FFF 0x9FFF = true ∧ stored 0xC000 0xC000 = true ∧
    stored 0xDFFF 0xDFFF = true ∧ stored 0xE000 0xC000 = true ∧ stored 0xFDFF 0xDDFF = true ∧ stored 0xFEA0 0xFEA0 = true ∧
    stored 0xFEFF 0xFEFF = true ∧ stored 0xFF03 0xFF03 = true ∧ stored 0xFF30 0xFF30 = true ∧ stored 0xFF80 0xFF80 = true ∧
    stored 0xFFFE 0xFFFE = true ∧ (inMode .hBlank).storageAt 0xFE00 = some (.image 0xFE00) ∧
    (inMode .hBlank).storageAt 0xFE9F = some (.image 0xFE9F) ∧
    (writes banked [(0x0000, 0x0A)]).storageAt 0xA000 = some (.cartRam 0) ∧
    (writes banked [(0x0000, 0x0A)]).storageAt 0xBFFF = some (.cartRam 0x1FFF) := by decide

theorem witness_StepRunsDecodedInstruction : State.reset.ctl.fault = none ∧ State.reset.ctl.halted = false ∧
    decode [State.reset.memRead 0x0100, State.reset.memRead 0x0101, State.reset.memRead 0x0102] = .ok (.nop, [0x00, 0x00]) ∧
    ∃ t, exec .nop { State.reset with
        regs := { State.reset.regs with pc := 0x0101 }
        ctl := { State.reset.ctl with haltBug := false, instrAddr := 0x0100, cost := 0 } } = .next t :=
  ⟨rfl, rfl, rfl, _, rfl⟩
/-- The same under the halt quirk, where the window's second byte is the opcode byte again. -/
theorem witness_StepRunsDecodedInstruction_quirk :
    let s : State := { start [0x3E, 0x14] [] with ctl := { State.reset.ctl with haltBug := true } }
    decode [s.memRead 0xC000, s.memRead 0xC000, s.memRead 0xC001] = .ok (.ldAN 0x3E, [0x14]) := by decide
theorem witness_StepEnabledExactlyWithoutFault : State.reset.ctl.fault = none ∧
    ({ State.reset with ctl := { State.reset.ctl with fault := some (.unimplementedOpcode 0xDD 0xC000) } } : State).ctl.fault =
      some (.unimplementedOpcode 0xDD 0xC000) := ⟨rfl, rfl⟩

/-- The reset state, halted. -/
def halted (ime : Bool) (ie iflags : Byte) : State :=
  { withIrq State.reset ime ie iflags with ctl := { State.reset.ctl with halted := true } }
/-- Running and halted, without a fault and with one; the check's condition holds, and fails, at the end of a step. -/
theorem witness_CycleClockAdvances : (∃ t, step State.reset = .next t ∧ t.ctl.fault = none) ∧
    (∃ t, step (start [0xDD] []) = .next t ∧ t.ctl.fault.isSome = true) ∧
    (∃ t, step (halted true 0x04 0x04) = .next t ∧ t.ctl.cycleClock = 9) ∧
    (∃ t, step (halted true 0x00 0x04) = .next t ∧ t.ctl.cycleClock = 4) :=
  ⟨⟨_, rfl, rfl⟩, ⟨_, rfl, rfl⟩, ⟨_, rfl, rfl⟩, ⟨_, rfl, rfl⟩⟩
/-- Halted and staying so; halted and waking without a dispatch. -/
theorem witness_HaltedStepIdles : (halted true 0x00 0x00).ctl.fault = none ∧ (halted true 0x00 0x00).ctl.halted = true ∧
    after (halted true 0x00 0x00) (fun t => t.ctl.halted) = true ∧
    (halted false 0x04 0x04).irq.pipe0.getD (halted false 0x04 0x04).irq.ime = false ∧
    after (halted false 0x04 0x04) (fun t => !t.ctl.halted) = true := by decide
theorem witness_InterruptCheckPriority :
    (withIrq State.reset true 0x08 0x08).irq.enable &&& (withIrq State.reset true 0x08 0x08).irq.flags &&& 0x17 = 0 ∧
    (withIrq State.reset false 0x10 0x10).irq.enable &&& (withIrq State.reset false 0x10 0x10).irq.flags &&& 0x17 ≠ 0 ∧
    (withIrq State.reset false 0x10 0x10).irq.ime = false ∧
    (withIrq State.reset true 0x1F 0x1F).irq.enable &&& (withIrq State.reset true 0x1F 0x1F).irq.flags &&& 0x17 ≠ 0 ∧
    (withIrq State.reset true 0x1F 0x1F).irq.ime = true := by decide
/-- Two different bytes below SP; also at the lower end of work RAM. -/
theorem witness_DispatchTakesInterrupt : State.reset.storageAt (State.reset.regs.sp - 1) = some (.image 0xFFFD) ∧
    State.reset.storageAt (State.reset.regs.sp - 2) = some (.image 0xFFFC) ∧ Storage.image 0xFFFD ≠ Storage.image 0xFFFC ∧
    State.reset.storageAt 0xC000 ≠ some (.image 0xFFFD) ∧
    State.reset.storageAt (0xC002 - 2) = some (.image 0xC000) ∧ State.reset.storageAt (0xC002 - 1) = some (.image 0xC001) := by
  decide
/-- A pending request; a step that ends with the global enable set. -/
theorem witness_GlobalEnableIsDelayed : (State.reset.requestIme true).irq.pipe1 = some true ∧
    ∃ t, step (withIrq State.reset true 0x00 0x00) = .next t ∧ t.ctl.fault = none ∧ t.irq.ime = true :=
  ⟨rfl, _, rfl, rfl, rfl⟩
theorem witness_DecodeOfEncode : WellFormed .nop = true ∧ WellFormed (.jpNn 0xFFFF) = true ∧ WellFormed .set7A = true :=
  ⟨rfl, rfl, rfl⟩
theorem witness_EveryStepKeepsInvariant : State.reset.Inv ∧ ∃ t, step State.reset = .next t :=
  ⟨{ flags := rfl, memory := ⟨rfl, rfl, rfl⟩, stored := ⟨rfl, rfl, rfl⟩, timers := ⟨by decide, by decide⟩
     bank := ⟨by decide, by decide⟩
     ppu := ⟨by decide, fun _ => by decide, by decide, fun h => absurd h (by decide)⟩
     apu := ⟨by decide, by decide, fun k => by cases k <;> exact ⟨by decide, by decide, by decide, by decide⟩⟩
     pipeline := ⟨rfl, fun _ => rfl⟩, boot := fun h => h }, _, rfl⟩
theorem witness_ResetMeetsInvariant : Memory.wf Platform.default.cart.rom = true ∧ Memory.wf bankedPlatform.cart.rom = true := by
  decide
/-- Storage at the ends of its regions, wave memory and high RAM among them; object-attribute memory at its ends; no button. -/
theorem witness_ResetValues : stored 0x8000 0x8000 = true ∧ stored 0xC000 0xC000 = true ∧ stored 0xFDFF 0xDDFF = true ∧
    stored 0xFF30 0xFF30 = true ∧ stored 0xFF3F 0xFF3F = true ∧ stored 0xFF80 0xFF80 = true ∧ stored 0xFFFE 0xFFFE = true ∧
    0xFE00 ≤ (0xFE00 : Word).toNat ∧ (0xFE9F : Word).toNat < 0xFEA0 ∧ Platform.default.input = 0x00 := by decide
/-- Another pair than the one written. -/
theorem witness_pairs : Pair.bc ≠ Pair.sp ∧ StackPair.bc ≠ StackPair.af ∧ Reg8.b ∉ [Reg8.a] := by decide
theorem witness_PopAfterPush : State.reset.storageAt (State.reset.regs.sp - 1) = some (.image 0xFFFD) ∧
    State.reset.storageAt (State.reset.regs.sp - 2) = some (.image 0xFFFC) ∧ Storage.image 0xFFFD ≠ Storage.image 0xFFFC ∧
    ∃ t u, exec (Instr.push .bc) State.reset = .next t ∧ exec (Instr.pop .af) t = .next u :=
  ⟨by decide, by decide, by decide, _, _, rfl, rfl⟩
theorem witness_SubtractAndCompare : AluOp.sbc = .sub ∨ AluOp.sbc = .sbc ∨ AluOp.sbc = .cp := by decide
theorem witness_BitwiseLogic : AluOp.xor = .and ∨ AluOp.xor = .xor ∨ AluOp.xor = .or := by decide
/-- 99 and 99, 0 and 0. -/
theorem witness_DecimalSum :
    (start [] [.r .a 0x99, .r .b 0x99]).regs.a = BitVec.ofNat 8 ((99 : Fin 100).val / 10 * 16 + (99 : Fin 100).val % 10) ∧
    (start [] [.r .a 0x99, .r .b 0x99]).regs.b = BitVec.ofNat 8 ((99 : Fin 100).val / 10 * 16 + (99 : Fin 100).val % 10) ∧
    ∃ t u, exec .addAB (start [] [.r .a 0x99, .r .b 0x99]) = .next t ∧ exec .daa t = .next u :=
  ⟨by decide, by decide, _, _, rfl, rfl⟩
/-- R24, U7: 0xFF15 and 0xFF1F are plain storage, with the sound power on or off; R366: their neighbour 0xFF16 is gated. -/
theorem test_unlistedSoundAddresses :
    (State.reset.memWrite 0xFF15 0x5A).memRead 0xFF15 = 0x5A ∧
    (let off := State.reset.memWrite 0xFF26 0x00
     (off.memWrite 0xFF15 0x5A).memRead 0xFF15 = 0x5A ∧ (off.memWrite 0xFF1F 0xA5).memRead 0xFF1F = 0xA5 ∧
     (off.memWrite 0xFF16 0x5A).memRead 0xFF16 = 0x3F) := by decide
theorem witness_AccumulatorRotates :
    (Instr.rra, (0x1F : Byte)) ∈ [(Instr.rlca, (0x07 : Byte)), (.rrca, 0x0F), (.rla, 0x17), (.rra, 0x1F)] := by decide
theorem witness_DmaCopy : (0 : Nat) < 160 ∧ 159 < 160 ∧ ((0xFDFF : Nat) < 0xFE00 ∨ 0xFEA0 ≤ 0xFDFF) ∧
    ((0xFEA0 : Nat) < 0xFE00 ∨ 0xFEA0 ≤ 0xFEA0) := by decide
theorem witness_HaltOrQuirk : (withIrq State.reset true 0 0).irq.ime = true ∧ State.reset.irq.ime = false := ⟨rfl, rfl⟩
theorem witness_EchoMirrorsWorkRam : 0xE000 ≤ (0xE000 : Word).toNat ∧ (0xE000 : Word).toNat < 0xFE00 ∧
    0xE000 ≤ (0xFDFF : Word).toNat ∧ (0xFDFF : Word).toNat < 0xFE00 := by decide
/-- Each region at its ends, and each of the ways it is closed. -/
theorem witness_BlockedRegions :
    (inMode .drawing).ppu.lcdc.getLsbD 7 = true ∧ (inMode .drawing).ppu.mode = .drawing ∧ 0x8000 ≤ (0x8000 : Word).toNat ∧
    (0x9FFF : Word).toNat < 0xA000 ∧ State.reset.ppu.mode = .oamScan ∧ State.reset.ppu.lcdc.getLsbD 7 = true ∧
    0xFE00 ≤ (0xFE00 : Word).toNat ∧ (0xFE9F : Word).toNat < 0xFEA0 ∧ 0xA000 ≤ (0xA000 : Word).toNat ∧
    (0xBFFF : Word).toNat < 0xC000 ∧ State.reset.plat.cart.kind = .noController ∧ banked.bank.ramEnable = false ∧
    State.reset.plat.cart.ramSize = 0 := by decide
theorem witness_BankControllerCommands : State.reset.plat.cart.kind = .noController ∧ banked.plat.cart.kind = .banked ∧
    (0x0000 : Word).toNat < 0x2000 ∧ (0x1FFF : Word).toNat < 0x2000 ∧ 0x2000 ≤ (0x2000 : Word).toNat ∧
    (0x3FFF : Word).toNat < 0x4000 ∧ 0x4000 ≤ (0x4000 : Word).toNat ∧ (0x7FFF : Word).toNat < 0x8000 := by decide
theorem witness_RegisterReadBack : (0xFF05 : Word) ∈ [(0xFF05 : Word), 0xFF06, 0xFF07, 0xFF0F, 0xFF40, 0xFF42, 0xFF43, 0xFF45,
    0xFF46, 0xFF47, 0xFF48, 0xFF49, 0xFF4A, 0xFF4B, 0xFFFF] ∧
    0xFF30 ≤ (0xFF30 : Word).toNat ∧ (0xFF3F : Word).toNat ≤ 0xFF3F := by decide
/-- The sound clause with the power on: without and with the trigger bit, and at a register that has none. -/
theorem witness_RegisterReadBack_sound : State.reset.apu.nr52.getLsbD 7 = true ∧ (0xFF24 : Word) ≠ 0xFF14 ∧
    (0xFF26 : Word) ≠ 0xFF14 ∧ (0x7F : Byte).getLsbD 7 = false ∧ (0xFF13 : Word) ∉ [(0xFF14 : Word), 0xFF19, 0xFF1E, 0xFF23] ∧
    (0xFF14 : Word) ∈ [(0xFF10 : Word), 0xFF11, 0xFF12, 0xFF13, 0xFF14] := by decide
/-- R364, R376: loads without a trigger. NR11 0x3F loads 1, NR31 0xFF loads 1, NR13 and NR14 load the frequency; nothing starts. -/
theorem test_soundLoads :
    (State.reset.memWrite 0xFF11 0x3F).apu.ch0.length = 1 ∧ (State.reset.memWrite 0xFF1B 0xFF).apu.ch2.length = 1 ∧
    (let s := (State.reset.memWrite 0xFF13 0xA5).memWrite 0xFF14 0x47
     s.apu.ch0.freq = 0x7A5 ∧ s.apu.ch0.active = false ∧ s.memRead 0xFF13 = 0xA5 ∧ s.memRead 0xFF14 = 0x47) := by decide
/-- TIMA off; on with none due, with one due at 0xFF, with one due below it. -/
theorem witness_TimerCounting : timer0.tac.getLsbD 2 = false ∧ ({ timer0 with tac := 0x05 } : Timer).tac.getLsbD 2 = true ∧
    (timer0.timaCounter + 15) / 16 = 0 ∧ (timer0.timaCounter + 16) / 16 = 1 ∧
    ({ timer0 with tac := 0x05, tima := 0xFF } : Timer).tima = 0xFF ∧ timer0.tima ≠ 0xFF := by decide
/-- The reset PPU, and one at each end of VBlank. -/
theorem witness_FrameIs70224Cycles :
    Ppu.reset.inRange ∧ Ppu.reset.displayOn = true ∧
    Ppu.inRange { Ppu.reset with mode := .vBlank, ly := 144 } ∧ Ppu.inRange { Ppu.reset with mode := .vBlank, ly := 153, acc := 455 } ∧
    144 ≤ ({ Ppu.reset with mode := .vBlank, ly := 144 } : Ppu).ly.toNat :=
  ⟨⟨by decide, fun _ => by decide, by decide, fun h => absurd h (by decide)⟩, by decide,
    ⟨by decide, fun h => absurd rfl h, by decide, fun h => absurd h (by decide)⟩,
    ⟨by decide, fun h => absurd rfl h, by decide, fun h => absurd h (by decide)⟩, by decide⟩
/-- Below the budget, at it, in every mode, at the lines where the sequence turns. -/
theorem witness_SequencerTransitions :
    ppuTransition [] ({ Ppu.reset with acc := 79 }, 0) = none ∧
    (ppuTransition [] ({ Ppu.reset with acc := 80 }, 0)).isSome = true ∧
    (ppuTransition [] ({ Ppu.reset with mode := .drawing, acc := 172 }, 0)).isSome = true ∧
    (ppuTransition [] ({ Ppu.reset with mode := .hBlank, acc := 204, ly := 143 }, 0)).isSome = true ∧
    (ppuTransition [] ({ Ppu.reset with mode := .hBlank, acc := 204, ly := 142 }, 0)).isSome = true ∧
    (ppuTransition [] ({ Ppu.reset with mode := .vBlank, acc := 456, ly := 153 }, 0)).isSome = true ∧
    (ppuTransition [] ({ Ppu.reset with mode := .vBlank, acc := 456, ly := 152 }, 0)).isSome = true := by decide
theorem witness_DisplaySwitch : State.reset.ppu.lcdc.getLsbD 7 = true ∧ (0x11 : Byte).getLsbD 7 = false ∧
    (State.reset.memWrite 0xFF40 0x11).ppu.lcdc.getLsbD 7 = false ∧ (0x91 : Byte).getLsbD 7 = true ∧
    State.reset.ppu.lcdc.getLsbD 7 = (0x80 : Byte).getLsbD 7 := by decide
theorem witness_RenderOneLine : (0 : Fin 144) ≠ 143 ∧ ({ Ppu.reset with lcdc := 0x80 } : Ppu).lcdc.getLsbD 1 = false ∧
    ({ Ppu.reset with lcdc := 0x80 } : Ppu).lcdc.getLsbD 0 = false ∧ Ppu.reset.lcdc.getLsbD 1 = false ∧
    Ppu.reset.lcdc.getLsbD 0 = true := by decide
/-- A drawn pixel (claimed already by an equal Y), and one that is not drawn. -/
theorem witness_SpritePixelPriority :
    ((1 : BitVec 2) ≠ 0 ∧ (∀ c, some (0x10 : Byte) = some c → (0x10 : Byte).toNat ≤ c.toNat) ∧
      ((0x00 : Byte).getLsbD 7 = false ∨ (1 : BitVec 2) = 0)) ∧ ¬((0 : BitVec 2) ≠ 0) :=
  ⟨⟨by decide, fun c h => by cases h; decide, .inl (by decide)⟩, by decide⟩
theorem witness_SoundPowerAndTrigger : 0xFF10 ≤ (0xFF10 : Word).toNat ∧ (0xFF25 : Word).toNat ≤ 0xFF25 ∧
    (0xFF10 : Word) ≠ 0xFF15 ∧ (0xFF10 : Word) ≠ 0xFF1F ∧ (0xFF25 : Word) ≠ 0xFF15 ∧ (0xFF25 : Word) ≠ 0xFF1F ∧
    (State.reset.memWrite 0xFF26 0x00).apu.nr52.getLsbD 7 = false ∧ State.reset.apu.nr52.getLsbD 7 = true ∧
    (0x80 : Byte).getLsbD 7 = true ∧ (0x7F : Byte).getLsbD 7 = false := by decide
/-- Each clock's premises at the edge: a channel other than 2, length 1, an envelope due, a sweep due that adds up to 2047 or to more, or subtracts. -/
theorem witness_LengthEnvelopeSweepClocks :
    let s := writes State.reset [(0xFF10, 0x11), (0xFF11, 0x3F), (0xFF12, 0xF1), (0xFF14, 0xC0)]
    let a := apuAfter 4 s
    Chan.ch0 ≠ Chan.ch2 ∧ (a.nr .ch0 4).getLsbD 6 = true ∧ 0 < (a.ch .ch0).length ∧ (a.nr .ch3 4).getLsbD 6 = false ∧ (a.ch .ch0).active = true ∧
    (a.ch .ch0).envPeriod ≠ 0 ∧ (a.ch .ch0).envPeriod.toNat ≤ (a.ch .ch0).envTimer + 1 ∧ a.nr10.toNat / 16 % 8 ≠ 0 ∧
    a.nr10.toNat / 16 % 8 ≤ a.ch0.sweepTimer + 1 ∧ a.nr10.getLsbD 3 = false ∧
    a.ch0.freq.toNat + a.ch0.freq.toNat >>> (a.nr10.toNat % 8) ≤ 2047 ∧ 1365 + 1365 >>> 1 ≤ 2047 ∧ 2047 < 1366 + 1366 >>> 1 ∧
    (s.memWrite 0xFF10 0x19).apu.nr10.getLsbD 3 = true := by decide
theorem witness_MixBounds : (State.reset.memWrite 0xFF26 0x00).apu.nr52.getLsbD 7 = false := by decide

end Sys2Proof.Tests
end

/-! ### The invariant: every step keeps it, and reset meets it (family 10_state) -/

namespace Sys2Proof.Machine.Laws

/-- The parts of the invariant that hold inside a step and the shape of the global-enable pipeline make up the invariant. -/
theorem Steady.inv {s : State} (h : Steady s) (hp : s.pipelineShape) : s.Inv :=
  ⟨h.flags, h.memory, h.stored, h.timers, h.bank, h.ppu, h.apu, hp, h.boot⟩

/-- Phases 3 to 5 lead to a state between steps: the request of the instruction moves to the first slot, so a CPU that stays
halted must not have made one. -/
theorem inv_finishStep {s : State} (h : Steady s) (hp : s.ctl.halted = true → s.irq.pipe1 = none) : s.finishStep.Inv := by
  obtain ⟨h1, h0, hh⟩ := finishStep_pipeline s
  exact h.finishStep.inv ⟨h1, fun ht => h0.trans (hp (hh ht))⟩

/-- A step of the halted CPU makes no request. -/
theorem inv_idleStep {s : State} (h : Steady s) (hp : s.irq.pipe1 = none) : s.idleStep.Inv :=
  inv_finishStep (h.setCost _) fun _ => hp

/-- An instruction run between steps of a running CPU either raises the fault, and the pipeline is as it was, or it goes through
phases 3 to 5, having not both halted the CPU and requested the global enable. -/
theorem inv_endStep {s u : State} (hr : Ran s u) (hs : Steady s) (hh : s.ctl.halted = false) (hp : s.irq.pipe1 = none)
    (hf : s.ctl.fault = none) : u.endStep.Inv := by
  unfold State.endStep
  split
  next hfault =>
    obtain ⟨hnone, -⟩ | ⟨-, hirq, hhalt⟩ := hr.outcome
    · simp [hnone, hf] at hfault
    · exact (hr.steady hs).inv ⟨by rw [hirq, hp], fun ht => by simp [hhalt, hh] at ht⟩
  next =>
    refine inv_finishStep (hr.steady hs) fun ht => ?_
    obtain hhalt | hpipe := hr.request
    · simp [hhalt, hh] at ht
    · exact hpipe.trans hp

/-- Settles O11, by the two things a step can do (`step_cases`): idle, or run one instruction and end the step. -/
theorem everyStepKeepsInvariant : Obligations.EveryStepKeepsInvariant := by
  intro s t hinv hstep
  have hs : Steady s.unmapBoot := (Steady.of_inv hinv).unmapBoot
  have hp : s.unmapBoot.irq.pipe1 = none := by simpa using hinv.pipeline.1
  obtain ⟨hfault, ⟨-, rfl⟩ | ⟨hrun, i, n, u, -, -, hr, rfl⟩⟩ := step_cases hstep
  · exact inv_idleStep hs hp
  · exact inv_endStep hr (hs.afterFetch n) ((unmapBoot_halted s).trans hrun) hp ((unmapBoot_fault s).trans hfault)

/-! ### Reset -/

/-- A channel record of zeros is in range, whatever the shift register (R362). -/
theorem Channel.inRange_zero (k : Chan) (r : BitVec 15) : Channel.inRange k { Channel.zero with lfsr := r } := by
  cases k <;> simp [Channel.inRange, Channel.zero]

/-- The sound unit's counters are all 0 after reset (R25). -/
theorem Apu.inRange_reset (r : BitVec 15) : (Apu.reset r).inRange :=
  ⟨Nat.zero_lt_succ _, Nat.zero_lt_succ _, fun k => by cases k <;> exact Channel.inRange_zero _ _⟩

/-- The PPU starts in line 0 with the display on (R25). -/
theorem Ppu.inRange_reset : Ppu.reset.inRange :=
  ⟨by decide, fun _ => by decide, by decide, fun h => absurd h (by decide)⟩

/-- Settles O12, part by part of the invariant. -/
theorem resetMeetsInvariant : Obligations.ResetMeetsInvariant := fun p hrom =>
  { flags := show (0xB0 : Byte) &&& 0x0F = 0 by decide
    memory := ⟨rfl, rfl, hrom⟩
    stored := show (0x00 : Byte) &&& 0x07 = 0 ∧ (0xC0 : Byte) &&& 0x0F = 0 ∧ (0xF0 : Byte) &&& 0x0F = 0 by decide
    timers := ⟨Nat.zero_lt_succ _, Nat.zero_lt_succ _⟩
    bank := ⟨Nat.le_refl _, Nat.le_add_left _ _⟩
    ppu := Ppu.inRange_reset
    apu := Apu.inRange_reset p.noiseReseed
    pipeline := ⟨rfl, fun _ => rfl⟩
    boot := id }

/-- After reset every byte of plain storage is 0 (R25). -/
theorem readStorage_resetOn (p : Platform) (c : Storage) : readStorage (State.resetOn p) c = 0x00 := by
  cases c <;> rfl

/-- Object-attribute memory, read without blocking, is `mem` (R60, R64). -/
theorem busRead_raw_oam (s : State) {a : Word} (lo : 0xFE00 ≤ a.toNat) (hi : a.toNat < 0xFEA0) :
    s.busRead false a = Memory.read s.mem a.toNat := by
  simp [State.busRead, regionOf_oam lo hi]

/-- P1 after reset, with no button pressed: the two select bits stored as 0 and all lines high (R25, R66). -/
theorem readP1_resetOn {p : Platform} (h : p.input = 0x00) : (State.resetOn p).readP1 = 0xCF := by
  simp [State.readP1, State.resetOn, h]

/-- An address with a register of its own is a sound register's or stands in the map (R24). -/
theorem ioRegOf_cases {n : Nat} {r : IoReg} (h : ioRegOf n = r) (hp : r ≠ .plain) :
    (r = .sound ∧ 0xFF10 ≤ n ∧ n ≤ 0xFF25) ∨ (n, r) ∈ ioMap := by
  unfold ioRegOf at h
  split at h
  next hs => exact .inl ⟨h.symm, hs.1, hs.2.1⟩
  next =>
    cases hl : ioMap.lookup n with
    | none => exact absurd (by simpa [hl] using h.symm) hp
    | some q =>
      obtain rfl : q = r := by simpa [hl] using h
      obtain ⟨l1, l2, hmap, -⟩ := List.lookup_eq_some_iff.mp hl
      exact .inr (by simp [hmap])
theorem eq_of_ioRegOf_p1 {n : Nat} (h : ioRegOf n = .p1) : n = 0xFF00 := by
  simpa [ioMap] using ioRegOf_cases h (by decide)
theorem eq_of_ioRegOf_nr52 {n : Nat} (h : ioRegOf n = .nr52) : n = 0xFF26 := by
  simpa [ioMap] using ioRegOf_cases h (by decide)
theorem range_of_ioRegOf_sound {n : Nat} (h : ioRegOf n = .sound) : 0xFF10 ≤ n ∧ n ≤ 0xFF25 := by
  simpa [ioMap] using ioRegOf_cases h (by decide)

/-- Above P1 no byte read after reset depends on the platform. -/
theorem memRead_resetOn (p : Platform) {a : Word} (ha : 0xFF00 < a.toNat) :
    (State.resetOn p).memRead a = State.reset.memRead a := by
  unfold State.memRead State.busRead
  obtain hio | hhigh | hie : a.toNat < 0xFF80 ∨ (0xFF80 ≤ a.toNat ∧ a.toNat < 0xFFFF) ∨ 0xFFFF ≤ a.toNat := by omega
  · simp only [regionOf_io (Nat.le_of_lt ha) hio]
    unfold State.readIo
    split
    case h_1 h => exact absurd (eq_of_ioRegOf_p1 h) (by omega)
    all_goals rfl
  · simp only [regionOf_highRam hhigh.1 hhigh.2]
    rfl
  · simp only [regionOf_ie hie]
    rfl

/-- The registers of R25's table above P1, with their values after reset. -/
def resetTable : List (Word × Byte) :=
  [(0xFF04, 0x00), (0xFF05, 0x00), (0xFF06, 0x00), (0xFF07, 0x00), (0xFF0F, 0x00), (0xFF10, 0x80), (0xFF11, 0xBF),
   (0xFF12, 0xF3), (0xFF13, 0x00), (0xFF14, 0xBF), (0xFF16, 0x3F), (0xFF17, 0x00), (0xFF18, 0x00), (0xFF19, 0xBF),
   (0xFF1A, 0x7F), (0xFF1B, 0xFF), (0xFF1C, 0x9F), (0xFF1D, 0x00), (0xFF1E, 0xBF), (0xFF20, 0xFF), (0xFF21, 0x00),
   (0xFF22, 0x00), (0xFF23, 0xBF), (0xFF24, 0x77), (0xFF25, 0xF3), (0xFF26, 0xF0), (0xFF40, 0x91), (0xFF41, 0x06),
   (0xFF42, 0x00), (0xFF43, 0x00), (0xFF44, 0x00), (0xFF45, 0x00), (0xFF46, 0x00), (0xFF47, 0xFC), (0xFF48, 0xFF),
   (0xFF49, 0xFF), (0xFF4A, 0x00), (0xFF4B, 0x00), (0xFFFF, 0x00)]

theorem memRead_reset_table :
    resetTable.all (fun c => decide (0xFF00 < c.1.toNat) && State.reset.memRead c.1 == c.2) = true := by decide

/-- Settles O13: every register of R25's table evaluates to its value, and plain storage is empty. -/
theorem resetValues : Obligations.ResetValues := by
  intro p s
  refine ⟨rfl, rfl, ?bc, ?de, ?hl, rfl, rfl, rfl, rfl, rfl, rfl, rfl, rfl, rfl, rfl, rfl, rfl, rfl, rfl, rfl, rfl, rfl,
    fun y x => ?framebuffer, rfl, rfl, fun k => ?channels, fun n => ⟨rfl, rfl⟩, fun a _ ha => ?storage,
    fun a lo hi => busRead_raw_oam s lo hi, readP1_resetOn, ?registers⟩
  case bc => show mkWord 0x00 0x13 = 0x0013; decide
  case de => show mkWord 0x00 0xD8 = 0x00D8; decide
  case hl => show mkWord 0x01 0x4D = 0x014D; decide
  case framebuffer => simp [s, State.resetOn, Ppu.reset]
  case channels => cases k <;> rfl
  case storage =>
    obtain ⟨c, hc⟩ := Option.ne_none_iff_exists'.mp ha
    exact (memRead_of_storageAt s hc).trans (readStorage_resetOn p c)
  case registers =>
    intro c hc
    have hrow := List.all_eq_true.mp memRead_reset_table c hc
    simp only [Bool.and_eq_true, decide_eq_true_eq, beq_iff_eq] at hrow
    exact (memRead_resetOn p hrow.1).trans hrow.2

end Sys2Proof.Machine.Laws

/-! ### The sound unit's registers: what a write to one of them does (family 10_state) -/

namespace Sys2Proof.Machine.Laws

/-- What channel `k`'s record is after a write of `v` to sound register `i` with the power on: register 1 of the channel loads the
length, registers 3 and 4 the frequency, and bit 7 of register 4 triggers the channel (R364, R374, R376). -/
def writtenChannel (a : Apu) (k : Chan) (i : Nat) (v : Byte) : Channel :=
  let c := a.ch k
  let triggered := decide (i = 5 * k.index + 4) && v.getLsbD 7
  { c with
    length := if i = 5 * k.index + 1 then (if k = .ch2 then 256 - v.toNat else 64 - v.toNat % 64) else c.length
    freq := if k = .ch3 then c.freq
      else if i = 5 * k.index + 3 then BitVec.ofNat 11 (c.freq.toNat / 256 * 256 + v.toNat)
      else if i = 5 * k.index + 4 then BitVec.ofNat 11 (v.toNat % 8 * 256 + c.freq.toNat % 256) else c.freq
    volume := if triggered ∧ k ≠ .ch2 then BitVec.ofNat 4 ((a.nr k 2).toNat / 16) else c.volume
    active := c.active || triggered
    restart := c.restart || triggered }

theorem setCh_ch_eq (a : Apu) (k : Chan) : a.setCh k (a.ch k) = a := by cases k <;> rfl

theorem setCh_setCh (a : Apu) (k : Chan) (c d : Channel) : (a.setCh k c).setCh k d = a.setCh k d := by cases k <;> rfl
theorem setCh_nr (a : Apu) (j k : Chan) (i : Nat) (c : Channel) : (a.setCh k c).nr j i = a.nr j i := by cases k <;> rfl

theorem Chan.index_inj {j k : Chan} (h : j.index = k.index) : j = k := by cases j <;> cases k <;> simp_all [Chan.index]
theorem Chan.index_lt (k : Chan) : k.index < 4 := by cases k <;> decide
theorem Chan.exists_index {n : Nat} (h : n < 4) : ∃ k : Chan, k.index = n := by
  obtain rfl | rfl | rfl | rfl : n = 0 ∨ n = 1 ∨ n = 2 ∨ n = 3 := by omega
  exacts [⟨.ch0, rfl⟩, ⟨.ch1, rfl⟩, ⟨.ch2, rfl⟩, ⟨.ch3, rfl⟩]

/-- The frequency a low-byte write gives, as a number (R364). -/
theorem freqLow_eq (f : BitVec 11) (v : Byte) :
    (f.extractLsb' 8 3 ++ v : BitVec (3 + 8)) = BitVec.ofNat 11 (f.toNat / 256 * 256 + v.toNat) := by
  apply BitVec.eq_of_toNat_eq
  have hf := f.isLt
  have hv := v.isLt
  rw [BitVec.toNat_append, ← Nat.shiftLeft_add_eq_or_of_lt hv, Nat.shiftLeft_eq, BitVec.extractLsb'_toNat,
    Nat.shiftRight_eq_div_pow, BitVec.toNat_ofNat]
  omega
/-- The frequency a control write gives, as a number (R364). -/
theorem freqHigh_eq (f : BitVec 11) (v : Byte) :
    (v.extractLsb' 0 3 ++ f.extractLsb' 0 8 : BitVec (3 + 8)) = BitVec.ofNat 11 (v.toNat % 8 * 256 + f.toNat % 256) := by
  apply BitVec.eq_of_toNat_eq
  rw [BitVec.toNat_append, ← Nat.shiftLeft_add_eq_or_of_lt (f.extractLsb' 0 8).isLt, Nat.shiftLeft_eq,
    BitVec.extractLsb'_toNat, BitVec.extractLsb'_toNat, BitVec.toNat_ofNat]
  simp only [Nat.shiftRight_zero]
  omega
/-- The volume nibble of an envelope register, as a number (R374). -/
theorem volumeNibble_eq (e : Byte) : e.extractLsb' 4 4 = BitVec.ofNat 4 (e.toNat / 16) := by
  apply BitVec.eq_of_toNat_eq
  simp [Nat.shiftRight_eq_div_pow]

/-- Where a register neither loads the length or the frequency nor triggers, the record stays. -/
theorem writtenChannel_plain (a : Apu) {k : Chan} {i : Nat} {v : Byte} (h1 : i ≠ 5 * k.index + 1)
    (h3 : i = 5 * k.index + 3 → k = .ch3) (h4 : i = 5 * k.index + 4 → k = .ch3 ∧ v.getLsbD 7 = false) :
    writtenChannel a k i v = a.ch k := by
  by_cases e3 : i = 5 * k.index + 3
  · simp [writtenChannel, e3, h3 e3]
  · by_cases e4 : i = 5 * k.index + 4
    · simp only [writtenChannel, h4 e4, e4]
      simp
    · simp [writtenChannel, h1, e3, e4]

theorem writtenChannel_other (a : Apu) {k : Chan} {i : Nat} (v : Byte) (h : i / 5 ≠ k.index) :
    writtenChannel a k i v = a.ch k :=
  writtenChannel_plain a (by omega) (by omega) (by omega)

/-! The effect of each register of a channel (R364): registers 0 and 2 are only stored. -/

theorem registerEffect_nr0 (a : Apu) (k : Chan) (v : Byte) : a.registerEffect (5 * k.index) v = a := by cases k <;> rfl
theorem registerEffect_nr1 (a : Apu) (k : Chan) (v : Byte) : a.registerEffect (5 * k.index + 1) v = a.loadLength k v := by
  cases k <;> rfl
theorem registerEffect_nr2 (a : Apu) (k : Chan) (v : Byte) : a.registerEffect (5 * k.index + 2) v = a := by cases k <;> rfl
theorem registerEffect_nr3 (a : Apu) (k : Chan) (v : Byte) :
    a.registerEffect (5 * k.index + 3) v = if k = .ch3 then a else a.writeFreqLow k v := by cases k <;> rfl
theorem registerEffect_nr4 (a : Apu) (k : Chan) (v : Byte) :
    a.registerEffect (5 * k.index + 4) v =
      if k = .ch3 then (if v.getLsbD 7 then a.trigger k else a) else a.writeControl k v := by cases k <;> rfl

/-- A control write's effect on the record: the frequency, then the trigger. -/
theorem writeControl_eq (a : Apu) {k : Chan} (hk : k ≠ .ch3) (v : Byte) :
    a.writeControl k v = a.setCh k (writtenChannel a k (5 * k.index + 4) v) := by
  unfold Apu.writeControl writtenChannel
  generalize v.getLsbD 7 = t
  cases t
  · simp [hk, freqHigh_eq]
  · simp [hk, Apu.trigger, volumeNibble_eq, freqHigh_eq, setCh_setCh, setCh_nr]

/-- A register of channel `k` has its effect on that channel's record alone. -/
theorem registerEffect_own (a : Apu) (k : Chan) {o : Nat} (ho : o < 5) (v : Byte) :
    a.registerEffect (5 * k.index + o) v = a.setCh k (writtenChannel a k (5 * k.index + o) v) := by
  obtain rfl | rfl | rfl | rfl | rfl : o = 0 ∨ o = 1 ∨ o = 2 ∨ o = 3 ∨ o = 4 := by omega
  · rw [writtenChannel_plain a (by omega) (by omega) (by omega), setCh_ch_eq]
    exact registerEffect_nr0 a k v
  · rw [registerEffect_nr1]
    simp [writtenChannel, Apu.loadLength]
  · rw [writtenChannel_plain a (by omega) (by omega) (by omega), setCh_ch_eq, registerEffect_nr2]
  · rw [registerEffect_nr3]
    split
    next hk => rw [writtenChannel_plain a (by omega) (fun _ => hk) (by omega), setCh_ch_eq]
    next hk => simp [writtenChannel, Apu.writeFreqLow, freqLow_eq, hk]
  · rw [registerEffect_nr4]
    split
    next hk =>
      split
      next ht =>
        unfold writtenChannel
        simp only [ht]
        simp [Apu.trigger, volumeNibble_eq, hk]
      next ht => rw [writtenChannel_plain a (by omega) (by omega) fun _ => ⟨hk, by simpa using ht⟩, setCh_ch_eq]
    next hk => exact writeControl_eq a hk v
/-- A register's effect is on one channel's record, and every record is as `writtenChannel` says. -/
theorem registerEffect_eq (a : Apu) {i : Nat} (hi : i < 22) (v : Byte) :
    ∃ k, a.registerEffect i v = a.setCh k (writtenChannel a k i v) ∧ ∀ j, j ≠ k → writtenChannel a j i v = a.ch j := by
  by_cases h20 : i < 20
  · obtain ⟨k, hk⟩ := Chan.exists_index (n := i / 5) (by omega)
    have hio : i = 5 * k.index + i % 5 := by omega
    refine ⟨k, ?_, fun j hj => writtenChannel_other a v fun h => hj (Chan.index_inj (h.symm.trans hk.symm))⟩
    have := registerEffect_own a k (o := i % 5) (by omega) v
    rwa [← hio] at this
  · have hnone : ∀ j : Chan, i / 5 ≠ j.index := fun j => by cases j <;> simp [Chan.index] <;> omega
    refine ⟨.ch0, ?_, fun j _ => writtenChannel_other a v (hnone j)⟩
    rw [writtenChannel_other a v (hnone _), setCh_ch_eq]
    obtain rfl | rfl : i = 20 ∨ i = 21 := by omega
    all_goals rfl

/-- Storing the byte first does not matter: the trigger reads the channel's envelope register, not its own. -/
theorem writtenChannel_stored (a : Apu) (k : Chan) (i : Nat) (v : Byte) :
    writtenChannel { a with regs := a.regs.setIfInBounds i v } k i v = writtenChannel a k i v := by
  have hch : Apu.ch { a with regs := a.regs.setIfInBounds i v } k = a.ch k := by cases k <;> rfl
  unfold writtenChannel
  rw [hch]
  by_cases h4 : i = 5 * k.index + 4
  · have hnr : Apu.nr { a with regs := a.regs.setIfInBounds i v } k 2 = a.nr k 2 := by
      simp only [Apu.nr, Apu.reg, Vector.getElem?_setIfInBounds, if_neg (show i ≠ 5 * k.index + 2 by omega)]
    rw [hnr]
  · simp [h4]

/-- With the power off it is lost (R364, R366). -/
theorem writeReg_off {a : Apu} (hp : a.power = false) (i : Nat) (v : Byte) : a.writeReg i v = a := by
  simp [Apu.writeReg, hp]

section
variable {a : Apu} (hp : a.power = true) {i : Nat} (hi : i < 22) (v : Byte)
include hp hi

/-- With the power on, a write to a sound register stores the byte and changes one channel's record (R364). -/
theorem writeReg_eq : ∃ k, a.writeReg i v =
    Apu.setCh { a with regs := a.regs.setIfInBounds i v } k (writtenChannel a k i v) ∧
      ∀ j, j ≠ k → writtenChannel a j i v = a.ch j := by
  obtain ⟨k, h, hne⟩ := registerEffect_eq { a with regs := a.regs.setIfInBounds i v } hi v
  refine ⟨k, ?_, fun j hj => ?_⟩
  · rw [Apu.writeReg, if_pos hp, h, writtenChannel_stored]
  · rw [← writtenChannel_stored, hne j hj]
    cases j <;> rfl

theorem writeReg_reg (j : Nat) : (a.writeReg i v).reg j = if j = i then v else a.reg j := by
  obtain ⟨k, h, -⟩ := writeReg_eq hp hi v
  rw [h, Apu.reg, setCh_regs, Vector.getElem?_setIfInBounds]
  split
  next he => rw [if_pos he.symm]; rfl
  next he => rw [if_neg (Ne.symm he), Apu.reg]
theorem writeReg_ch (j : Chan) : (a.writeReg i v).ch j = writtenChannel a j i v := by
  obtain ⟨k, h, hne⟩ := writeReg_eq hp hi v
  rw [h, setCh_ch]
  split
  next hj => rw [hj]
  next hj => rw [hne j hj]; cases j <;> rfl
theorem writeReg_sequencer :
    (a.writeReg i v).seqCounter = a.seqCounter ∧ (a.writeReg i v).seqStep = a.seqStep := by
  obtain ⟨k, h, -⟩ := writeReg_eq hp hi v
  rw [h, setCh_seqCounter, setCh_seqStep]
  exact ⟨rfl, rfl⟩

end

/-! ### NR52 (R366) -/

/-- The bits of NR52 as read: the four channels' in order, then the stored ones. -/
theorem getLsbD_readNr52 (a : Apu) (j : Nat) : a.readNr52.getLsbD j =
    if j < 1 then a.ch0.active else if j < 2 then a.ch1.active else if j < 3 then a.ch2.active
      else if j < 4 then a.ch3.active else a.nr52.getLsbD j := by
  unfold Apu.readNr52
  rw [BitVec.getLsbD_append] -- the outermost append is typed as a byte, so `simp` does not open it
  simp only [BitVec.getLsbD_append]
  match j with
  | 0 | 1 | 2 | 3 => simp
  | n + 4 =>
    have hn : BitVec.getLsbD a.nr52 (n + 4) = (decide (n < 4) && a.nr52.getLsbD (4 + n)) := by
      by_cases h : n < 4
      · simp [h, Nat.add_comm]
      · rw [BitVec.getLsbD_of_ge _ _ (by omega), decide_eq_false h, Bool.false_and]
    simp [hn]
theorem getLsbD_readNr52_index (a : Apu) (k : Chan) : a.readNr52.getLsbD k.index = (a.ch k).active := by
  rw [getLsbD_readNr52]
  cases k <;> rfl
theorem getLsbD_readNr52_high (a : Apu) {j : Nat} (hj : 4 ≤ j) : a.readNr52.getLsbD j = a.nr52.getLsbD j := by
  rw [getLsbD_readNr52, if_neg (by omega), if_neg (by omega), if_neg (by omega), if_neg (by omega)]
/-- NR52 reads by its stored bits 7:4 and the channel-active bits. -/
theorem readNr52_congr {a b : Apu} (h : b.nr52 = a.nr52) (hk : ∀ k, (b.ch k).active = (a.ch k).active) :
    b.readNr52 = a.readNr52 := by
  unfold Apu.readNr52
  rw [h, show b.ch0.active = _ from hk .ch0, show b.ch1.active = _ from hk .ch1, show b.ch2.active = _ from hk .ch2,
    show b.ch3.active = _ from hk .ch3]
  rfl

theorem writeNr52_regs (a : Apu) (v : Byte) : (a.writeNr52 v).regs = a.regs := by
  unfold Apu.writeNr52; dsimp only; split <;> (try split) <;> rfl
/-- Only switching the power off changes a channel's flags: it clears them (R366). -/
theorem writeNr52_active (a : Apu) (v : Byte) (k : Chan) :
    ((a.writeNr52 v).ch k).active = ((a.ch k).active && (v.getLsbD 7 || !a.power)) := by
  unfold Apu.writeNr52
  dsimp only
  cases a.power <;> cases v.getLsbD 7 <;> cases k <;> simp [Apu.silence, Apu.ch]
theorem writeNr52_off {a : Apu} (hp : a.power = true) {v : Byte} (hv : v.getLsbD 7 = false) :
    a.writeNr52 v = Apu.silence { a with nr52 := v &&& 0xF0 } := by
  simp only [Apu.writeNr52, hp, hv]; rfl

theorem readNr52_silence (a : Apu) : a.silence.readNr52 = a.nr52 &&& 0xF0 := by
  apply BitVec.eq_of_getLsbD_eq
  intro j hj
  rw [getLsbD_readNr52]
  interval_cases j <;> simp [Apu.silence]

/-! ### The bus at the sound unit's addresses -/

/-- The address of sound register `i` (R24). -/
def soundAddr (i : Nat) : Word := BitVec.ofNat 16 (0xFF10 + i)

theorem soundAddr_toNat {i : Nat} (hi : i < 22) : (soundAddr i).toNat = 0xFF10 + i := by
  simp only [soundAddr, BitVec.toNat_ofNat]
  omega
theorem soundAddr_inj {i j : Nat} (hi : i < 22) (hj : j < 22) : soundAddr i = soundAddr j ↔ i = j := by
  refine ⟨fun h => ?_, fun h => h ▸ rfl⟩
  have := congrArg BitVec.toNat h
  rw [soundAddr_toNat hi, soundAddr_toNat hj] at this
  omega
/-- Every address of the range but the two unlisted ones is a sound register's (R24, R364). -/
theorem exists_soundAddr {a : Word} (lo : 0xFF10 ≤ a.toNat) (hi : a.toNat ≤ 0xFF25) :
    ∃ i, i < 22 ∧ a = soundAddr i :=
  ⟨a.toNat - 0xFF10, by omega, BitVec.eq_of_toNat_eq (by rw [soundAddr_toNat (by omega)]; omega)⟩

/-- The statements' spelling of a channel's register. -/
theorem soundAddr_eq_nr_iff {i : Nat} (hi : i < 22) (k : Chan) {o : Nat} (ho : o < 5) :
    soundAddr i = BitVec.ofNat 16 (0xFF10 + 5 * k.index + o) ↔ i = 5 * k.index + o := by
  have hk := Chan.index_lt k
  rw [Nat.add_assoc]
  exact soundAddr_inj hi (by omega)

section
variable (s : State) {i : Nat} (hi : i < 22) (h15 : i ≠ 5) (h1F : i ≠ 15)
include hi h15 h1F

theorem ioRegOf_soundAddr : ioRegOf (soundAddr i).toNat = .sound := by
  rw [soundAddr_toNat hi]
  exact ioRegOf_sound (by omega) (by omega) (by omega) (by omega)
theorem memRead_soundAddr : s.memRead (soundAddr i) = s.apu.reg i := by
  have ha := soundAddr_toNat hi
  rw [memRead_sound s (ioRegOf_soundAddr hi h15 h1F) (by omega) (by omega), ha, Nat.add_sub_cancel_left]
theorem memWrite_soundAddr (v : Byte) : s.memWrite (soundAddr i) v = { s with apu := s.apu.writeReg i v } := by
  have ha := soundAddr_toNat hi
  rw [memWrite_sound s v (ioRegOf_soundAddr hi h15 h1F) (by omega) (by omega), ha, Nat.add_sub_cancel_left]

end

/-- A read of a channel's envelope register (R24). -/
theorem memRead_envelope (s : State) (k : Chan) : s.memRead (soundAddr (5 * k.index + 2)) = s.apu.nr k 2 := by
  have hk := Chan.index_lt k
  exact memRead_soundAddr s (by omega) (by omega) (by omega)
theorem memRead_nr52 (s : State) : s.memRead 0xFF26 = s.apu.readNr52 := rfl
theorem memWrite_nr52 (s : State) (v : Byte) : s.memWrite 0xFF26 v = { s with apu := s.apu.writeNr52 v } := rfl

/-- A read sees the sound unit only at the sound registers and at NR52. -/
theorem memRead_withApu (s : State) (u : Apu) (b : Word)
    (hreg : ∀ i, i < 22 → b = soundAddr i → u.reg i = s.apu.reg i)
    (h52 : b = 0xFF26 → u.readNr52 = s.apu.readNr52) : State.memRead { s with apu := u } b = s.memRead b := by
  unfold State.memRead State.busRead
  dsimp only
  split
  case h_9 =>
    unfold State.readIo
    split
    case h_7 h =>
      obtain ⟨lo, up⟩ := range_of_ioRegOf_sound h
      obtain ⟨i, hi, rfl⟩ := exists_soundAddr lo up
      rw [soundAddr_toNat hi, Nat.add_sub_cancel_left]
      exact hreg i hi rfl
    case h_8 h => exact h52 (BitVec.eq_of_toNat_eq (eq_of_ioRegOf_nr52 h))
    all_goals rfl
  all_goals rfl

end Sys2Proof.Machine.Laws

/-! ### Plain bytes of the I/O region (R24, R63) -/

namespace Sys2Proof.Machine.Laws

theorem storageAt_ioPlain (s : State) {a : Word} (lo : 0xFF00 ≤ a.toNat) (hi : a.toNat < 0xFF80)
    (h : ioRegOf a.toNat = .plain) : s.storageAt a = some (.image a.toNat) := by
  simp [State.storageAt, regionOf_io lo hi, h]
theorem memWrite_ioPlain (s : State) {a : Word} (v : Byte) (lo : 0xFF00 ≤ a.toNat) (hi : a.toNat < 0xFF80)
    (h : ioRegOf a.toNat = .plain) : s.memWrite a v = s.storeMem a.toNat v :=
  memWrite_of_storageAt s v (storageAt_ioPlain s lo hi h)
theorem lt_of_regionOf_echo {n : Nat} (h : regionOf n = .echo) : n < 0xFE00 := by
  have := regionOf_cases n
  simp only [h, reduceCtorEq, and_false, and_true, false_or, or_false] at this
  exact this.2
/-- Above the echo an address that reaches a byte of the image reaches the byte of its own number. -/
theorem eq_of_storageAt_image (s : State) {b : Word} {n : Nat} (hn : 0xFE00 ≤ n) (h : s.storageAt b = some (.image n)) :
    b.toNat = n := by
  unfold State.storageAt at h
  dsimp only at h
  split at h
  case h_9 he =>
    have := lt_of_regionOf_echo he
    simp only [Option.some.injEq, Storage.image.injEq] at h
    omega
  all_goals (try split at h)
  all_goals simp_all

/-- A plain byte of the I/O region reads as written, and no other address reads it. -/
theorem memRead_memWrite_ioPlain (s : State) {a : Word} (v : Byte) (lo : 0xFF00 ≤ a.toNat) (hi : a.toNat < 0xFF80)
    (h : ioRegOf a.toNat = .plain) (b : Word) : (s.memWrite a v).memRead b = if b = a then v else s.memRead b := by
  have ha := storageAt_ioPlain s lo hi h
  rw [memRead_memWrite_storage s v ha]
  by_cases hb : b = a
  · rw [if_pos (hb ▸ ha), if_pos hb]
  · rw [if_neg fun he => hb (BitVec.eq_of_toNat_eq (eq_of_storageAt_image s (by omega) he)), if_neg hb]

theorem ioRegOf_waveMemory {n : Nat} (lo : 0xFF30 ≤ n) (hi : n ≤ 0xFF3F) : ioRegOf n = .plain := by
  interval_cases n <;> rfl

/-! ### The sound power, the trigger and switching off -/

/-- R364, R374: what a write to channel `k`'s register 4 with bit 7 set leaves in its record. -/
theorem writtenChannel_trigger (a : Apu) (k : Chan) {v : Byte} (hv : v.getLsbD 7 = true) :
    let c := writtenChannel a k (5 * k.index + 4) v
    c.active = true ∧ c.restart = true ∧
      c.volume.toNat = if k = .ch2 then (a.ch k).volume.toNat else (a.nr k 2).toNat / 16 := by
  have hnib : (a.nr k 2).toNat / 16 < 16 := by have := (a.nr k 2).isLt; omega
  cases k <;> simp_all [writtenChannel]

/-- Settles O57, clause by clause: the gate is `Apu.writeReg`'s, the two unlisted addresses are plain storage, the trigger is
`writtenChannel`'s, and switching off is `Apu.silence`. -/
theorem soundPowerAndTrigger : Obligations.SoundPowerAndTrigger := by
  intro s v
  refine ⟨fun a lo hi h15 h1F hoff => ?gate, fun a ha => ?unlisted, fun k hon hv => ?trigger, fun hon hv => ?off⟩
  case gate =>
    obtain ⟨i, h22, rfl⟩ := exists_soundAddr lo hi
    rw [memWrite_soundAddr s h22 (by rintro rfl; exact h15 rfl) (by rintro rfl; exact h1F rfl), writeReg_off hoff]
  case unlisted =>
    have hplain : 0xFF00 ≤ a.toNat ∧ a.toNat < 0xFF80 ∧ ioRegOf a.toNat = .plain := by
      obtain rfl | rfl := ha <;> exact ⟨by decide, by decide, rfl⟩
    obtain ⟨lo, hi, h⟩ := hplain
    have hread := memRead_memWrite_ioPlain s v lo hi h
    exact ⟨by rw [memWrite_ioPlain s v lo hi h]; rfl, by simp [hread], fun b hb => by simp [hread, hb]⟩
  case trigger =>
    have hi : 5 * k.index + 4 < 22 := by have := Chan.index_lt k; omega
    have h4 : BitVec.ofNat 16 (0xFF14 + 5 * k.index) = soundAddr (5 * k.index + 4) := by cases k <;> rfl
    have h2 : BitVec.ofNat 16 (0xFF12 + 5 * k.index) = soundAddr (5 * k.index + 2) := by cases k <;> rfl
    rw [h4, h2, memWrite_soundAddr s hi (by omega) (by omega), memRead_envelope]
    have hch : ∀ j, (s.apu.writeReg (5 * k.index + 4) v).ch j = writtenChannel s.apu j (5 * k.index + 4) v :=
      writeReg_ch hon hi v
    obtain ⟨hactive, hrestart, hvolume⟩ := writtenChannel_trigger s.apu k hv
    simp only [hch, memRead_nr52, getLsbD_readNr52_index]
    exact ⟨hactive, hrestart, hvolume, hactive, fun j hj => writtenChannel_other _ v fun h => hj (Chan.index_inj (by omega))⟩
  case off =>
    rw [memWrite_nr52, memRead_nr52, writeNr52_off hon hv]
    refine ⟨fun k => by cases k <;> exact ⟨rfl, rfl⟩, ?_⟩
    rw [readNr52_silence, BitVec.and_assoc]
    rfl

end Sys2Proof.Machine.Laws

/-! ### Reading a register back -/

namespace Sys2Proof.Machine.Laws

theorem writeLcdc_lcdc (p : Ppu) (v : Byte) : (p.writeLcdc v).lcdc = v := by
  unfold Ppu.writeLcdc; dsimp only; split <;> (try split) <;> rfl

/-- The registers that store the byte as it is (R24). -/
theorem memRead_memWrite_plainRegister (s : State) (v : Byte) : ∀ a : Word, a ∈ ([0xFF05, 0xFF06, 0xFF07, 0xFF0F, 0xFF40, 0xFF42,
    0xFF43, 0xFF45, 0xFF46, 0xFF47, 0xFF48, 0xFF49, 0xFF4A, 0xFF4B, 0xFFFF] : List Word) → (s.memWrite a v).memRead a = v := by
  have hdma : (s.dma v).ppu.dma = v := by simp [dma_frame]
  simp only [List.forall_mem_cons, List.not_mem_nil, false_implies, implies_true, and_true]
  exact ⟨rfl, rfl, rfl, rfl, writeLcdc_lcdc s.ppu v, rfl, rfl, rfl, hdma, rfl, rfl, rfl, rfl, rfl, rfl⟩

/-- A byte has eight bits. -/
theorem getLsbD_eq_of_lt {v w : Byte} {j : Nat} (h : j < 8 → v.getLsbD j = w.getLsbD j) : v.getLsbD j = w.getLsbD j := by
  by_cases h8 : j < 8
  · exact h h8
  · rw [BitVec.getLsbD_of_ge _ _ (by omega), BitVec.getLsbD_of_ge _ _ (by omega)]
/-- A mask that holds the bits from `n` up keeps those bits. -/
theorem getLsbD_and_mask (v : Byte) {m : Byte} {n : Nat} (hm : ∀ j, j < 8 → n ≤ j → m.getLsbD j = true) {j : Nat} (hj : n ≤ j) :
    (v &&& m).getLsbD j = v.getLsbD j :=
  getLsbD_eq_of_lt fun h8 => by rw [BitVec.getLsbD_and, hm j h8 hj, Bool.and_true]
theorem getLsbD_and_F0 (v : Byte) {j : Nat} (hj : 4 ≤ j) : (v &&& 0xF0).getLsbD j = v.getLsbD j :=
  getLsbD_and_mask v (by decide) hj
theorem getLsbD_and_F8 (v : Byte) {j : Nat} (hj : 3 ≤ j) : (v &&& 0xF8).getLsbD j = v.getLsbD j :=
  getLsbD_and_mask v (by decide) hj

/-- The stored bits of STAT as read (R304). -/
theorem getLsbD_readStat_high (p : Ppu) {j : Nat} (hj : 3 ≤ j) : p.readStat.getLsbD j = p.stat.getLsbD j := by
  refine getLsbD_eq_of_lt fun h8 => ?_
  have hflag : (if p.ly = p.lyc then (0x04 : Byte) else 0x00).getLsbD j = false := by
    split <;> interval_cases j <;> rfl
  have hmode : (modeNumber p.mode).getLsbD j = false := by
    cases p.mode <;> interval_cases j <;> rfl
  rw [Ppu.readStat, BitVec.getLsbD_or, BitVec.getLsbD_or, hflag, hmode, Bool.or_false, Bool.or_false, getLsbD_and_F8 _ hj]
theorem getLsbD_readStat_compare (p : Ppu) : p.readStat.getLsbD 2 = decide (p.ly = p.lyc) := by
  unfold Ppu.readStat
  cases p.mode <;> by_cases h : p.ly = p.lyc <;> simp [h, modeNumber]
theorem readStat_mode (p : Ppu) : p.readStat.toNat % 4 = (modeNumber p.mode).toNat := by
  have hlow : p.readStat.setWidth 2 = (modeNumber p.mode).setWidth 2 := by
    rw [Ppu.readStat, BitVec.setWidth_or, BitVec.setWidth_or, BitVec.setWidth_and]
    split <;> simp
  have := congrArg BitVec.toNat hlow
  rw [BitVec.toNat_setWidth, BitVec.toNat_setWidth] at this
  rw [this]
  cases p.mode <;> rfl

/-- The select bits of P1 as read (R66). -/
theorem getLsbD_readP1_high (s : State) {j : Nat} (hj : 4 ≤ j) : s.readP1.getLsbD j = s.p1.getLsbD j := by
  refine getLsbD_eq_of_lt fun h8 => ?_
  unfold State.readP1
  rw [BitVec.getLsbD_append, if_neg (by omega), BitVec.getLsbD_extractLsb', decide_eq_true (by omega), Bool.true_and,
    Nat.add_sub_cancel' hj]
/-- The input lines, active low: a pressed button of a selected group (R66). -/
theorem getLsbD_readP1_low (s : State) {j : Nat} (hj : j < 4) : s.readP1.getLsbD j =
    !((!s.p1.getLsbD 4 && s.plat.input.getLsbD j) || (!s.p1.getLsbD 5 && s.plat.input.getLsbD (j + 4))) := by
  unfold State.readP1
  rw [BitVec.getLsbD_append, if_pos hj, BitVec.getLsbD_not, decide_eq_true hj, BitVec.getLsbD_or]
  cases s.p1.getLsbD 4 <;> cases s.p1.getLsbD 5 <;> simp [hj, Nat.add_comm]

theorem memWrite_stat_read (s : State) (v : Byte) :
    (s.memWrite 0xFF41 v).memRead 0xFF41 = Ppu.readStat { s.ppu with stat := v &&& 0xF8 } := rfl
theorem memWrite_p1_read (s : State) (v : Byte) :
    (s.memWrite 0xFF00 v).memRead 0xFF00 = State.readP1 { s with p1 := v &&& 0xF0 } := rfl

/-! ### A write to a sound register with the power on -/

section
variable (s : State) (v : Byte) (hon : s.apu.nr52.getLsbD 7 = true) {i : Nat} (hi : i < 22) (h15 : i ≠ 5) (h1F : i ≠ 15)
include hon hi h15 h1F

theorem memWrite_sound_readBack : (s.memWrite (soundAddr i) v).memRead (soundAddr i) = v := by
  rw [memWrite_soundAddr s hi h15 h1F, memRead_soundAddr _ hi h15 h1F, writeReg_reg hon hi, if_pos rfl]

/-- No other byte reads differently but NR52 at a trigger. -/
theorem memWrite_sound_frame {b : Word} (hb : b ≠ soundAddr i)
    (h : b ≠ 0xFF26 ∨ v.getLsbD 7 = false ∨ ∀ k : Chan, i ≠ 5 * k.index + 4) :
    (s.memWrite (soundAddr i) v).memRead b = s.memRead b := by
  rw [memWrite_soundAddr s hi h15 h1F]
  refine memRead_withApu s _ b (fun j hj hbj => ?_) fun h52 => ?_
  · rw [writeReg_reg hon hi, if_neg fun hji => hb (hbj.trans (congrArg soundAddr hji))]
  · have hnot : ∀ k : Chan, (decide (i = 5 * k.index + 4) && v.getLsbD 7) = false := by
      intro k
      obtain h | h | h := h
      · exact absurd h52 h
      · rw [h, Bool.and_false]
      · rw [decide_eq_false (h k), Bool.false_and]
    refine readNr52_congr (nr52_writeReg _ _ _) fun k => ?_
    rw [writeReg_ch hon hi]
    simp only [writtenChannel, hnot, Bool.or_false]

end

/-- The addresses of R24's sound registers. -/
theorem soundRegisters_eq : ([0xFF10, 0xFF11, 0xFF12, 0xFF13, 0xFF14, 0xFF16, 0xFF17, 0xFF18, 0xFF19, 0xFF1A, 0xFF1B, 0xFF1C,
    0xFF1D, 0xFF1E, 0xFF20, 0xFF21, 0xFF22, 0xFF23, 0xFF24, 0xFF25] : List Word) =
    ((List.range 22).filter fun i => i ≠ 5 ∧ i ≠ 15).map soundAddr := by decide

/-- Settles O49, register by register; the sound registers all at once, as `soundAddr i`, with the records `writtenChannel` gives. -/
theorem registerReadBack : Obligations.RegisterReadBack := by
  intro s v
  refine ⟨memRead_memWrite_plainRegister s v, rfl, rfl, ?stat, ?p1, fun a lo hi => ?wave, ?nr52, fun hon a ha => ?sound⟩
  case stat =>
    rw [memWrite_stat_read]
    refine ⟨fun k hk => ?_, getLsbD_readStat_compare _, ?_⟩
    · rw [getLsbD_readStat_high _ hk, getLsbD_and_F8 v hk]
    · rw [readStat_mode]
      dsimp only
      cases s.ppu.mode <;> rfl
  case p1 =>
    rw [memWrite_p1_read]
    refine ⟨fun k hk => ?_, fun k hk => ?_⟩
    · rw [getLsbD_readP1_high _ hk, getLsbD_and_F0 v hk]
    · rw [getLsbD_readP1_low _ hk, getLsbD_and_F0 v (by decide), getLsbD_and_F0 v (by decide)]
  case wave =>
    rw [memRead_memWrite_ioPlain s v (by omega) (by omega) (ioRegOf_waveMemory lo hi), if_pos rfl]
  case nr52 =>
    rw [memWrite_nr52]
    refine ⟨rfl, fun b hb => ?_, fun k hk => ?_, fun k => ?_⟩
    · refine memRead_withApu s _ b (fun i _ _ => ?_) fun h => absurd h hb
      rw [Apu.reg, writeNr52_regs, Apu.reg]
    · rw [memRead_nr52, getLsbD_readNr52_high _ hk, nr52_writeNr52, getLsbD_and_F0 v hk]
    · rw [memRead_nr52, getLsbD_readNr52_index, writeNr52_active]
      rfl
  case sound =>
    rw [soundRegisters_eq] at ha
    obtain ⟨i, hmem, rfl⟩ := List.mem_map.mp ha
    obtain ⟨hi, h15, h1F⟩ : i < 22 ∧ i ≠ 5 ∧ i ≠ 15 := by simpa using hmem
    have ht := memWrite_soundAddr s hi h15 h1F v
    obtain ⟨hcounter, hstep⟩ := writeReg_sequencer hon hi v
    refine ⟨by rw [ht], memWrite_sound_readBack s v hon hi h15 h1F, by rw [ht]; exact nr52_writeReg _ _ _,
      by rw [ht]; exact hcounter, by rw [ht]; exact hstep, fun b hb h => ?_, fun k => ?_⟩
    · refine memWrite_sound_frame s v hon hi h15 h1F hb (h.imp_right (Or.imp_right fun h k hk => ?_))
      subst hk
      cases k <;> exact h (by decide)
    · have henv : s.memRead (BitVec.ofNat 16 (0xFF10 + 5 * k.index + 2)) = s.apu.nr k 2 := by
        rw [Nat.add_assoc]
        exact memRead_envelope s k
      simp only [ht, writeReg_ch hon hi, henv, soundAddr_eq_nr_iff hi k (show 1 < 5 by decide),
        soundAddr_eq_nr_iff hi k (show 3 < 5 by decide), soundAddr_eq_nr_iff hi k (show 4 < 5 by decide)]
      rfl

end Sys2Proof.Machine.Laws

/-! ### The bus: reading rules and the bank controller (family 20_memory) -/

namespace Sys2Proof.Machine.Laws

/-! ### The echo (R58) -/

/-- The address 0x2000 below an echo address. -/
theorem toNat_sub_2000 {a : Word} (lo : 0xE000 ≤ a.toNat) : (a - 0x2000).toNat = a.toNat - 0x2000 :=
  BitVec.toNat_sub_of_le (BitVec.le_def.mpr (Nat.le_trans (by decide) lo))

/-- Settles O45: an echo address and the work RAM address 0x2000 below reach the same byte of `mem`. -/
theorem echoMirrorsWorkRam : Obligations.EchoMirrorsWorkRam := by
  intro s a v lo hi
  have hecho : regionOf a.toNat = .echo := regionOf_echo lo hi
  have hsub := toNat_sub_2000 lo
  have hwork : regionOf (a - 0x2000).toNat = .workRam := regionOf_workRam (by omega) (by omega)
  have hwrite := memWrite_echo s (v := v) hecho
  refine ⟨?_, ?_, ?_, ?_⟩
  · rw [memRead_echo s hecho, memRead_workRam s hwork, hsub]
  · rw [hwrite, memWrite_workRam s hwork, hsub]
  · rw [hwrite, memRead_echo _ hecho]
    exact read_write_self s.mem _ v
  · rw [hwrite, memRead_workRam _ hwork, hsub]
    exact read_write_self s.mem _ v

/-! ### Blocked and disabled regions (R59, R60, R61) -/

section
variable (s : State) {a : Word} (v : Byte)

theorem memAccess_videoRam_blocked (h : regionOf a.toNat = .videoRam) (hb : s.videoRamBlocked = true) :
    s.memRead a = 0xFF ∧ s.memWrite a v = s := by
  simp [State.memRead, State.busRead, State.memWrite, h, hb, Config.blockedReadValue]
theorem memAccess_oam_blocked (h : regionOf a.toNat = .oam) (hb : s.oamBlocked = true) :
    s.memRead a = 0xFF ∧ s.memWrite a v = s := by
  simp [State.memRead, State.busRead, State.memWrite, h, hb, Config.blockedReadValue]
theorem memAccess_extRam_unreachable (h : regionOf a.toNat = .extRam) (hr : s.ramReachable = false) :
    s.memRead a = 0xFF ∧ s.memWrite a v = s := by
  simp [State.memRead, State.busRead, State.memWrite, h, hr, Config.disabledRamValue]

end

theorem videoRamBlocked_of_drawing {s : State} (hon : s.ppu.lcdc.getLsbD 7 = true) (hm : s.ppu.mode = .drawing) :
    s.videoRamBlocked = true := by
  simp [State.videoRamBlocked, Ppu.displayOn, hon, hm]
theorem oamBlocked_of_mode {s : State} (hon : s.ppu.lcdc.getLsbD 7 = true)
    (hm : s.ppu.mode = .oamScan ∨ s.ppu.mode = .drawing) : s.oamBlocked = true := by
  obtain hm | hm := hm <;> simp [State.oamBlocked, Ppu.displayOn, hon, hm]
/-- External RAM is out of reach without a controller, while disabled, and where there is none (R61). -/
theorem ramReachable_eq_false {s : State}
    (h : s.plat.cart.kind = .noController ∨ s.bank.ramEnable = false ∨ s.plat.cart.ramSize = 0) : s.ramReachable = false := by
  obtain h | h | h := h <;> simp [State.ramReachable, State.ramEnabled, h]

/-- Settles O46, region by region. -/
theorem blockedRegions : Obligations.BlockedRegions := by
  rintro s a v (⟨lo, hi, hon, hm⟩ | ⟨lo, hi, hon, hm⟩ | ⟨lo, hi, h⟩)
  · exact memAccess_videoRam_blocked s v (regionOf_videoRam lo hi) (videoRamBlocked_of_drawing hon hm)
  · exact memAccess_oam_blocked s v (regionOf_oam lo hi) (oamBlocked_of_mode hon hm)
  · exact memAccess_extRam_unreachable s v (regionOf_extRam lo hi) (ramReachable_eq_false h)

/-! ### The bank controller's commands (R57, R70 to R73) -/

section
variable (s : State) {a : Word} {n : Nat} (v : Byte)

theorem memWrite_rom (h : a.toNat < 0x8000) : s.memWrite a v = s.bankCommand a.toNat v := by
  have hregion : regionOf a.toNat = .romFixed ∨ regionOf a.toNat = .romBank :=
    (Nat.lt_or_ge a.toNat 0x4000).imp regionOf_romFixed fun lo => regionOf_romBank lo h
  obtain h | h := hregion <;> simp only [State.memWrite, h]

theorem bankCommand_noController (h : s.plat.cart.kind = .noController) : s.bankCommand n v = s := by
  simp only [State.bankCommand, h]

variable (h : s.plat.cart.kind = .banked)
include h

theorem bankCommand_ramEnable (hi : n < 0x2000) :
    s.bankCommand n v =
      { s with bank := { s.bank with ramEnable := v.extractLsb' 0 4 == Config.ramEnableSentinel } } := by
  simp only [State.bankCommand, h, if_pos hi]
theorem bankCommand_select (lo : 0x2000 ≤ n) (hi : n < 0x4000) :
    s.bankCommand n v = { s with bank := s.bank.select s.plat.cart.bankCount v } := by
  simp only [State.bankCommand, h, if_neg (Nat.not_lt.mpr lo), if_pos hi]
theorem bankCommand_ignored (lo : 0x4000 ≤ n) : s.bankCommand n v = s := by
  simp only [State.bankCommand, h, if_neg (Nat.not_lt.mpr lo), if_neg (show ¬n < 0x2000 by omega)]

end

/-- No command changes anything but the controller's registers. -/
theorem bankCommand_frame (s : State) (n : Nat) (v : Byte) : s.bankCommand n v = { s with bank := (s.bankCommand n v).bank } := by
  cases h : s.plat.cart.kind with
  | noController => rw [bankCommand_noController s v h]
  | banked =>
    obtain hn | ⟨lo, hi⟩ | hn : n < 0x2000 ∨ (0x2000 ≤ n ∧ n < 0x4000) ∨ 0x4000 ≤ n := by omega
    · rw [bankCommand_ramEnable s v h hn]
    · rw [bankCommand_select s v h lo hi]
    · rw [bankCommand_ignored s v h hn]

/-- The low nibble that enables external RAM, as a number (R70). -/
theorem ramEnableSentinel_eq (v : Byte) :
    (v.extractLsb' 0 4 == Config.ramEnableSentinel) = decide (v.toNat % 16 = 10) := by
  rw [beq_eq_decide, decide_eq_decide, ← BitVec.toNat_inj, BitVec.extractLsb'_toNat, Nat.shiftRight_zero]
  rfl

/-- What a bank selection leaves in the controller (R71, decision D11). -/
theorem Bank.select_spec (k : Bank) (count : Nat) (v : Byte) :
    let wanted := if v.toNat % 32 = 0 then 1 else v.toNat % 32
    (k.select count v).romBank =
        (if wanted < count then wanted else if wanted % count = 0 then 1 else wanted % count) ∧
      (k.select count v).ramEnable = k.ramEnable ∧ (k.select count v).mode = k.mode := by
  intro wanted
  by_cases hlt : wanted < count
  · have : k.select count v = { k with romBank := wanted } := if_pos hlt
    rw [this, if_pos hlt]
    exact ⟨rfl, rfl, rfl⟩
  · have : k.select count v = { k with
        romBank := if wanted % count = 0 then 1 else wanted % count, outOfRangeReports := k.outOfRangeReports + 1 } := if_neg hlt
    rw [this, if_neg hlt]
    exact ⟨rfl, rfl, rfl⟩

/-- Settles O47: a write below 0x8000 is a command, and each range has its own. -/
theorem bankControllerCommands : Obligations.BankControllerCommands := by
  intro s a v ha
  rw [memWrite_rom s v ha]
  refine ⟨bankCommand_frame s _ v, fun h => ?absent, fun h hi => ?enable, fun h lo hi => ?select, fun h lo => ?ignored⟩
  case absent => rw [bankCommand_noController s v h]
  case enable => rw [bankCommand_ramEnable s v h hi, ramEnableSentinel_eq]
  case select =>
    rw [bankCommand_select s v h lo hi]
    exact Bank.select_spec s.bank _ v
  case ignored => rw [bankCommand_ignored s v h lo]

end Sys2Proof.Machine.Laws

/-! ### The DMA copy (R64, family 20_memory) -/

namespace Sys2Proof.Machine.Laws

/-- A byte stored in object-attribute memory is seen by no read of another address: the echo ends below it, and the I/O region's
plain bytes lie above. -/
theorem busRead_storeMem_oam (s : State) (blocking : Bool) {n : Nat} (v : Byte) (lo : 0xFE00 ≤ n) (hi : n < 0xFEA0) {a : Word}
    (ha : n ≠ a.toNat) : (s.storeMem n v).busRead blocking a = s.busRead blocking a := by
  have hself : Memory.read (Memory.write s.mem n v) a.toNat = Memory.read s.mem a.toNat := read_write_ne _ v ha
  unfold State.busRead
  dsimp only
  split
  case h_6 hr =>
    have := lt_of_regionOf_echo hr
    exact read_write_ne _ v (by omega)
  case h_9 =>
    unfold State.readIo
    split
    case h_21 => exact hself
    all_goals rfl
  case h_3 => exact congrArg (ite (blocking && s.videoRamBlocked) _) hself
  case h_7 => exact congrArg (ite (blocking && s.oamBlocked) _) hself
  case h_5 | h_8 | h_10 => exact hself
  all_goals rfl

/-- The source address of byte `i` of the copy. -/
theorem toNat_dmaSource (page : Byte) {i : Nat} (hi : i < 160) :
    (BitVec.ofNat 16 (page.toNat * 0x100 + i)).toNat = page.toNat * 0x100 + i := by
  have := page.isLt
  rw [BitVec.toNat_ofNat, Nat.mod_eq_of_lt (by omega)]

/-- A byte of the copy disturbs the source of no other byte, even where the copy's source is object-attribute memory itself. -/
theorem busRead_dmaByte_source (page : Byte) (s : State) {i j : Nat} (hi : i < 160) (hj : j < 160) (hne : j ≠ i) :
    (State.dmaByte page s j).busRead false (BitVec.ofNat 16 (page.toNat * 0x100 + i)) =
      s.busRead false (BitVec.ofNat 16 (page.toNat * 0x100 + i)) :=
  busRead_storeMem_oam s false _ (by omega) (by omega) (by rw [toNat_dmaSource page hi]; omega)

/-- The copy leaves the bytes it does not name. -/
theorem read_dma_fold_of_notMem (page : Byte) {n : Nat} (l : List Nat) (hn : ∀ i ∈ l, 0xFE00 + i ≠ n) :
    ∀ s : State, Memory.read (l.foldl (State.dmaByte page) s).mem n = Memory.read s.mem n := by
  induction l with
  | nil => exact fun _ => rfl
  | cons j l ih =>
    obtain ⟨hj, hl⟩ := List.forall_mem_cons.mp hn
    exact fun s => (ih hl (State.dmaByte page s j)).trans (read_write_ne _ _ hj)

/-- The copy puts at each byte it names what its source read as before the copy. -/
theorem read_dma_fold_of_mem (page : Byte) {i : Nat} (hi : i < 160) (l : List Nat) (hnodup : l.Nodup)
    (hl : ∀ j ∈ l, j < 160) (hmem : i ∈ l) : ∀ s : State,
    Memory.read (l.foldl (State.dmaByte page) s).mem (0xFE00 + i) =
      s.busRead false (BitVec.ofNat 16 (page.toNat * 0x100 + i)) := by
  induction l with
  | nil => exact absurd hmem List.not_mem_nil
  | cons j l ih =>
    intro s
    obtain ⟨hjl, hnodup⟩ := List.nodup_cons.mp hnodup
    obtain ⟨hj, hl⟩ := List.forall_mem_cons.mp hl
    rw [List.foldl_cons]
    obtain rfl | hmem := List.mem_cons.mp hmem
    · rw [read_dma_fold_of_notMem page l fun k hk hki => hjl (by rwa [Nat.add_left_cancel hki] at hk)]
      exact read_write_self s.mem _ _
    · rw [ih hnodup hl hmem, busRead_dmaByte_source page s hi hj fun h => hjl (h ▸ hmem)]

/-- The copy changes `mem` only. -/
theorem dma_fold_eq (page : Byte) (l : List Nat) : ∀ s : State,
    l.foldl (State.dmaByte page) s = { s with mem := (l.foldl (State.dmaByte page) s).mem } := by
  induction l with
  | nil => exact fun _ => rfl
  | cons j l ih => exact fun s => ih (State.dmaByte page s j)

theorem memWrite_dma (s : State) (v : Byte) : s.memWrite 0xFF46 v = s.dma v := rfl

/-- Settles O48, by the three facts about the copy of a list of bytes, here the bytes below 160. -/
theorem dmaCopy : Obligations.DmaCopy := by
  intro s v paged t
  have ht : t = (List.range 160).foldl (State.dmaByte v) paged := memWrite_dma s v
  rw [ht]
  refine ⟨fun i hi => ?copied, fun n hn => ?kept, dma_fold_eq v _ paged⟩
  case copied =>
    exact read_dma_fold_of_mem v hi _ List.nodup_range (fun j => List.mem_range.mp) (List.mem_range.mpr hi) paged
  case kept =>
    refine read_dma_fold_of_notMem v _ (fun i hi => ?_) paged
    have := List.mem_range.mp hi
    omega

end Sys2Proof.Machine.Laws

/-! ### Decoding and fetching (R90 to R97, family 30_encoding) -/

namespace Sys2Proof.Laws

open Sys2Proof.Machine Sys2Proof.Machine.Laws

/-- A word operand written low byte first is read back (R93). -/
theorem decode_wordOperand {op : Byte} {f : Word → Instr} (h : primaryCell op = some (.opNN f)) (nn : Word) (rest : List Byte) :
    decode (op :: loByte nn :: hiByte nn :: rest) = .ok (f nn, rest) := by
  simp only [decode, h, mkWord_hi_lo]

/-- A byte operand is the byte after the opcode (R90). -/
theorem decode_byteOperand {op : Byte} {f : Byte → Instr} (h : primaryCell op = some (.opN f)) (n : Byte) (rest : List Byte) :
    decode (op :: n :: rest) = .ok (f n, rest) := by
  simp only [decode, h]

/-- Settles O10, by the format of the instruction's row (R90): an operand is read back, the prefix alone is excluded, and of the
other rows, primary and prefixed, the bytes are constants that the tables are looked up at. -/
theorem decodeOfEncode : Obligations.DecodeOfEncode := by
  intro i rest h
  cases i
  case prefixCB => exact absurd h (by decide)
  case ldBCNn nn | ldDENn nn | ldHLNn nn | ldSPNn nn | ldIndNnSP nn | ldIndNnA nn | ldAIndNn nn | jpNn nn | jpNZNn nn | jpZNn nn |
      jpNCNn nn | jpCNn nn | callNn nn | callNZNn nn | callZNn nn | callNCNn nn | callCNn nn =>
    exact decode_wordOperand rfl nn rest
  case ldBN n | ldCN n | ldDN n | ldEN n | ldHN n | ldLN n | ldIndHLN n | ldAN n | stop n | jrE n | jrNZE n | jrZE n | jrNCE n |
      jrCE n | addAN n | adcAN n | subN n | sbcAN n | andN n | xorN n | orN n | cpN n | ldhNA n | ldhAN n | addSPE n | ldHLSPE n =>
    exact decode_byteOperand rfl n rest
  all_goals rfl

/-- Settles O9: each word is the encoding of its instruction. -/
theorem decodeWrittenWords : Obligations.DecodeWrittenWords := by
  have read (i : Instr) (h : WellFormed i = true) : decode (encode i) = .ok (i, []) := by
    simpa using decodeOfEncode i [] h
  exact ⟨read .ldAB rfl, read (.ldIndHLN 0x99) rfl, read (.ldHLNn 0xC000) rfl, read .pushAF rfl, read .sbcAH rfl,
    read (.cpN 0x3C) rfl, read .addHLDE rfl, read .swapA rfl, read .bit7IndHL rfl, read (.jrCE 0xFC) rfl,
    read (.callCNn 0x1234) rfl, read .rst28 rfl, read .halt rfl, read .unimplDD rfl⟩

theorem opcodeLength_le (op : Byte) : opcodeLength op ≤ 3 := by
  unfold opcodeLength
  split
  · exact le_rfl
  · split <;> decide

/-- What is fetched is well formed, and the opcode byte alone says how many bytes are passed (R90, R95). -/
theorem fetchInstr_spec (s : State) :
    ∃ i, s.fetchInstr = some (i, s.afterFetch (opcodeLength (s.memRead s.regs.pc))) ∧ WellFormed i = true := by
  obtain ⟨i, rest, hdec, hlen⟩ :=
    decode_three (s.memRead s.regs.pc) (s.memRead s.pcAfterOpcode) (s.memRead (s.pcAfterOpcode + 1))
  have htaken : 3 - rest.length = opcodeLength (s.memRead s.regs.pc) := by
    rw [hlen, Nat.sub_sub_self (opcodeLength_le _)]
  refine ⟨i, ?_, decode_wf hdec⟩
  simp only [State.fetchInstr, State.fetchWindow, hdec, htaken]

/-- PC after an instruction of `len` bytes: past all of them, one less under the halt quirk (R14, R91). -/
theorem afterFetch_pc (s : State) {len : Nat} (h : 0 < len) :
    (s.afterFetch len).regs.pc + (if s.ctl.haltBug then 1 else 0) = s.regs.pc + BitVec.ofNat 16 len := by
  obtain ⟨k, rfl⟩ := Nat.exists_eq_add_one.mpr h
  change s.pcAfterOpcode + BitVec.ofNat 16 k + _ = _
  rw [BitVec.ofNat_add]
  unfold State.pcAfterOpcode
  split
  · exact BitVec.add_assoc ..
  · rw [BitVec.add_comm (BitVec.ofNat 16 k), ← BitVec.add_assoc]
    exact BitVec.add_zero _

/-- Settles O2: the state after the fetch is `afterFetch` by the opcode's length. -/
theorem fetchTakesOpcodeLength : Obligations.FetchTakesOpcodeLength := by
  intro s
  obtain ⟨i, hfetch, hwf⟩ := fetchInstr_spec s
  exact ⟨i, _, hfetch, hwf, afterFetch_pc s (opcodeLength_pos _), rfl, rfl⟩

end Sys2Proof.Laws

/-! ### The 8-bit loads and stores (R110 to R128, family 40_load8) -/

namespace Sys2Proof.Machine.Laws

open Sys2Proof Sys2Proof.Laws

/-! ### Their encodings -/

theorem encodedAs_ldRegReg (dst src : Reg8) : (Instr.ldRegReg dst src).encodedAs [0x40 + 8 * dst.code + src.code] := by
  cases dst <;> cases src <;> rfl
theorem encodedAs_ldRegN (r : Reg8) (n : Byte) : (Instr.ldRegN r n).encodedAs [0x06 + 8 * r.code, n] := by
  cases r <;> exact decode_byteOperand rfl n []
theorem encodedAs_ldRegIndHL (r : Reg8) : (Instr.ldRegIndHL r).encodedAs [0x46 + 8 * r.code] := by cases r <;> rfl
theorem encodedAs_ldIndHLReg (r : Reg8) : (Instr.ldIndHLReg r).encodedAs [0x70 + r.code] := by cases r <;> rfl
theorem encodedAs_addrLoad (m : AddrForm) : m.load.encodedAs m.loadBytes := by
  cases m with
  | bc | de | highC => rfl
  | abs nn => exact decode_wordOperand rfl nn []
  | high n => exact decode_byteOperand rfl n []
theorem encodedAs_addrStore (m : AddrForm) : m.store.encodedAs m.storeBytes := by
  cases m with
  | bc | de | highC => rfl
  | abs nn => exact decode_wordOperand rfl nn []
  | high n => exact decode_byteOperand rfl n []

/-! ### What an instruction that answers one of the shared operations leaves -/

variable {s : State} {i : Instr}

theorem regsKept_setReg (r : Reg8) (v : Byte) : s.regsKept (s.setReg r v) [r] := fun q hq =>
  setReg_reg_ne s r q v (List.ne_of_not_mem_cons hq)

theorem regsKept_setHL (v : Word) : s.regsKept (s.setHL v) [.h, .l] := fun q hq => by
  obtain ⟨hh, hl⟩ : q ≠ .h ∧ q ≠ .l := by simpa using hq
  exact (setReg_reg_ne _ .l q _ hl).trans (setReg_reg_ne s .h q _ hh)

/-- The registers kept by two updates in a row are those kept by both. -/
theorem regsKept_trans {t u : State} {l l' : List Reg8} (h : s.regsKept t l) (h' : t.regsKept u l') :
    s.regsKept u (l ++ l') := fun q hq => by
  obtain ⟨hl, hl'⟩ := not_or.mp (mt List.mem_append.mpr hq)
  exact (h' q hl').trans (h q hl)

/-- The cost is no register. -/
theorem regsKept_setCost {t : State} {l : List Reg8} (h : s.regsKept t l) (n : Nat) : s.regsKept (t.setCost n) l := fun q hq =>
  (setCost_reg t n q).trans (h q hq)

/-- An instruction that writes one 8-bit register and nothing else. -/
theorem exec_setReg_effect {r : Reg8} {v : Byte} {n : Nat} (h : exec i s = .next ((s.setReg r v).setCost n)) :
    ∃ t, exec i s = .next t ∧ s.onlyRegs t n ∧ t.reg r = v ∧ s.regsKept t [r] ∧ t.regs.f = s.regs.f ∧
      t.regs.sp = s.regs.sp ∧ t.regs.pc = s.regs.pc := by
  have hframe : s.onlyRegs ((s.setReg r v).setCost n) n := onlyRegs_of (by rw [setReg_eq]; rfl)
  exact ⟨_, h, hframe, by simp, regsKept_setCost (regsKept_setReg r v) n, by simp, by simp, by simp⟩

/-- Nothing but the cost and a register file separates the answer of a storing instruction from the write. -/
theorem onlyRegsAndWrite_withRegs (a : Word) (v : Byte) (r : Regs) (n : Nat) :
    s.onlyRegsAndWrite (State.setCost { s.memWrite a v with regs := r } n) a v n :=
  onlyRegsAndWrite_of (by rw [← memWrite_ctl s a v]; rfl)

/-- An instruction that makes one bus write and nothing else. -/
theorem exec_memWrite_effect {a : Word} {v : Byte} {n : Nat} (h : exec i s = .next ((s.memWrite a v).setCost n)) :
    ∃ t, exec i s = .next t ∧ s.onlyRegsAndWrite t a v n ∧ t.regs = s.regs :=
  ⟨_, h, onlyRegsAndWrite_withRegs a v (s.memWrite a v).regs n, by simp⟩

/-- R125, R126: A is the byte at the old HL; of the registers only A, H and L change. -/
theorem exec_loadAMoveHL_effect {d : Word} (h : exec i s = .next (s.loadAMoveHL d)) :
    ∃ t, exec i s = .next t ∧ s.onlyRegs t 8 ∧ t.regs.a = s.memRead s.hl ∧ t.hl = s.hl + d ∧
      s.regsKept t [.a, .h, .l] ∧ t.regs.f = s.regs.f ∧ t.regs.sp = s.regs.sp ∧ t.regs.pc = s.regs.pc :=
  ⟨_, h, onlyRegs_of rfl, rfl, setHL_hl _ _, regsKept_setCost (regsKept_trans (regsKept_setReg .a _) (regsKept_setHL _)) 8,
    rfl, rfl, rfl⟩

/-- R127, R128: the write is at the old HL and of the old A; of the registers only H and L change. -/
theorem exec_storeAMoveHL_effect {d : Word} (h : exec i s = .next (s.storeAMoveHL d)) :
    ∃ t, exec i s = .next t ∧ s.onlyRegsAndWrite t s.hl s.regs.a 8 ∧ t.hl = s.hl + d ∧ s.regsKept t [.h, .l] ∧
      t.regs.f = s.regs.f ∧ t.regs.sp = s.regs.sp ∧ t.regs.pc = s.regs.pc := by
  have hwrite : s.regsKept (s.memWrite s.hl s.regs.a) [] := fun q _ => memWrite_reg s _ _ q
  exact ⟨_, h, onlyRegsAndWrite_withRegs _ _ _ 8, setHL_hl _ _, regsKept_setCost (regsKept_trans hwrite (regsKept_setHL _)) 8,
    by simp [State.storeAMoveHL], by simp [State.storeAMoveHL], by simp [State.storeAMoveHL]⟩

/-! ### The statements -/

/-- Settles O14: both forms answer one register update. -/
theorem loadRegister : Obligations.LoadRegister :=
  ⟨fun dst src s => ⟨encodedAs_ldRegReg dst src, exec_setReg_effect (exec_ldRegReg s dst src)⟩,
    fun r n s => ⟨encodedAs_ldRegN r n, exec_setReg_effect (exec_ldRegN s r n)⟩⟩

/-- Settles O15: every form answers one register update, by the byte read. -/
theorem loadFromMemory : Obligations.LoadFromMemory :=
  ⟨fun r s => ⟨encodedAs_ldRegIndHL r, exec_setReg_effect (exec_ldRegIndHL s r)⟩,
    fun m s => ⟨encodedAs_addrLoad m, exec_setReg_effect (exec_addrLoad s m)⟩⟩

/-- Settles O16: every form answers one bus write. -/
theorem storeToMemory : Obligations.StoreToMemory :=
  ⟨fun r s => ⟨encodedAs_ldIndHLReg r, exec_memWrite_effect (exec_ldIndHLReg s r)⟩,
    fun n _ => ⟨decode_byteOperand rfl n [], exec_memWrite_effect rfl⟩,
    fun m s => ⟨encodedAs_addrStore m, exec_memWrite_effect (exec_addrStore s m)⟩⟩

/-- Settles O17: the four forms move HL by 1 or by -1 after the access. -/
theorem accessAndMoveHL : Obligations.AccessAndMoveHL := by
  intro s
  rw [BitVec.sub_eq_add_neg]
  exact ⟨⟨rfl, exec_loadAMoveHL_effect rfl⟩, ⟨rfl, exec_loadAMoveHL_effect rfl⟩,
    ⟨rfl, exec_storeAMoveHL_effect rfl⟩, ⟨rfl, exec_storeAMoveHL_effect rfl⟩⟩

end Sys2Proof.Machine.Laws

/-! ### The 16-bit loads and the stack (R140 to R149, R203, family 41_load16) -/

namespace Sys2Proof.Machine.Laws

open Sys2Proof Sys2Proof.Laws

/-! ### Their encodings -/

theorem encodedAs_ldPairNn (p : Pair) (nn : Word) :
    (Instr.ldPairNn p nn).encodedAs [0x01 + 16 * p.code, nn.extractLsb' 0 8, nn.extractLsb' 8 8] := by
  cases p <;> exact decode_wordOperand rfl nn []
theorem encodedAs_push (q : StackPair) : (Instr.push q).encodedAs [0xC5 + 16 * q.code] := by cases q <;> rfl
theorem encodedAs_pop (q : StackPair) : (Instr.pop q).encodedAs [0xC1 + 16 * q.code] := by cases q <;> rfl

/-! ### Pairs read after a pair is written (R11, R12) -/

variable (s : State)

theorem setPair_pair_ne {p q : Pair} (v : Word) (h : q ≠ p) : (s.setPair p v).pair q = s.pair q := by
  cases p <;> cases q
  case bc.bc | de.de | hl.hl | sp.sp => exact absurd rfl h
  all_goals rfl

/-- A word popped into AF loses bits 3:0 (R12); into another pair it goes whole. -/
theorem setStackPair_stackPair (q : StackPair) (v : Word) :
    (s.setStackPair q v).stackPair q = if q = .af then v &&& 0xFFF0 else v := by
  cases q with
  | af => exact mkWord_maskFlags v
  | bc | de | hl => exact mkWord_hi_lo v

theorem setStackPair_stackPair_ne {q q' : StackPair} (v : Word) (h : q' ≠ q) :
    (s.setStackPair q v).stackPair q' = s.stackPair q' := by
  cases q <;> cases q'
  case bc.bc | de.de | hl.hl | af.af => exact absurd rfl h
  all_goals rfl

/-- The four stack pairs are made of the seven 8-bit registers and F. -/
theorem stackPair_congr {s t : State} (hregs : s.regsKept t []) (hf : t.regs.f = s.regs.f) (q : StackPair) :
    t.stackPair q = s.stackPair q := by
  have hreg (r : Reg8) : t.reg r = s.reg r := hregs r List.not_mem_nil
  cases q with
  | bc => exact congrArg₂ mkWord (hreg .b) (hreg .c)
  | de => exact congrArg₂ mkWord (hreg .d) (hreg .e)
  | hl => exact congrArg₂ mkWord (hreg .h) (hreg .l)
  | af => exact congrArg₂ mkWord (hreg .a) hf

/-! ### What each operation leaves -/

theorem loadPairNn_onlyRegs (p : Pair) (nn : Word) : s.onlyRegs (s.loadPairNn p nn) 12 :=
  onlyRegs_of (by rw [State.loadPairNn, setPair_eq]; rfl)

theorem storeSP_writes (nn : Word) :
    s.onlyRegsAndWrites (s.storeSP nn) nn (loByte s.regs.sp) (nn + 1) (hiByte s.regs.sp) 20 :=
  onlyRegsAndWrites_of (by simp [State.storeSP, State.setCost])

theorem pushPair_regs (q : StackPair) : (s.pushPair q).regs = { s.regs with sp := s.regs.sp - 2 } := by
  rw [State.pushPair, push16_eq]; rfl

theorem pushPair_writes (q : StackPair) :
    s.onlyRegsAndWrites (s.pushPair q) (s.regs.sp - 1) (hiByte (s.stackPair q)) (s.regs.sp - 2) (loByte (s.stackPair q)) 16 :=
  onlyRegsAndWrites_of (by rw [pushPair_regs]; simp [State.pushPair, push16_eq, State.setCost])

theorem pushPair_regsKept (q : StackPair) : s.regsKept (s.pushPair q) [] := fun r _ => by
  unfold State.reg
  rw [pushPair_regs]

/-- The reads of the frame of two writes: where both reach plain storage, the later write wins. -/
theorem onlyRegsAndWrites_memRead {s t : State} {a1 a2 : Word} {v1 v2 : Byte} {n : Nat} {c1 c2 : Storage}
    (h : s.onlyRegsAndWrites t a1 v1 a2 v2 n) (h1 : s.storageAt a1 = some c1) (h2 : s.storageAt a2 = some c2) (b : Word) :
    t.memRead b = if s.storageAt b = some c2 then v2 else if s.storageAt b = some c1 then v1 else s.memRead b := by
  obtain ⟨-, -, -, -, -, -, -, -, -, -, -, -, -, -, hread⟩ := h
  exact hread c1 c2 h1 h2 b

/-- R149: the two bytes a push stored are read back, each where it was stored because they are not one byte of storage. -/
theorem pushPair_popValue (q : StackPair) {c1 c2 : Storage} (h1 : s.storageAt (s.regs.sp - 1) = some c1)
    (h2 : s.storageAt (s.regs.sp - 2) = some c2) (hne : c1 ≠ c2) : (s.pushPair q).popValue = s.stackPair q := by
  have hread := onlyRegsAndWrites_memRead (pushPair_writes s q) h1 h2
  have haddr : s.regs.sp - 2 + 1 = s.regs.sp - 1 := by bv_omega
  have hlow : (s.pushPair q).memRead (s.regs.sp - 2) = loByte (s.stackPair q) := by rw [hread, if_pos h2]
  have hhigh : (s.pushPair q).memRead (s.regs.sp - 1) = hiByte (s.stackPair q) := by
    rw [hread, h1, if_neg (by simpa using hne), if_pos rfl]
  rw [State.popValue, pushPair_regs, haddr, hlow, hhigh, mkWord_hi_lo]

theorem popPair_sp (q : StackPair) : (s.popPair q).regs.sp = s.regs.sp + 2 := setStackPair_regs_sp s.popped q s.popValue

theorem popPair_stackPair (q : StackPair) :
    (s.popPair q).stackPair q = if q = .af then s.popValue &&& 0xFFF0 else s.popValue :=
  setStackPair_stackPair s.popped q s.popValue

theorem popPair_stackPair_ne {q q' : StackPair} (h : q' ≠ q) : (s.popPair q).stackPair q' = s.stackPair q' :=
  (setStackPair_stackPair_ne s.popped s.popValue h).trans (stackPair_congr (fun r _ => setSP_reg s _ r) rfl q')

theorem popPair_onlyRegs (q : StackPair) : s.onlyRegs (s.popPair q) 12 :=
  onlyRegs_of (by rw [State.popPair, setStackPair_eq]; rfl)

/-! ### The statements -/

/-- Settles O18: both forms answer one pair update. -/
theorem loadPairAndStackPointer : Obligations.LoadPairAndStackPointer :=
  ⟨fun p nn s => ⟨encodedAs_ldPairNn p nn, _, exec_ldPairNn s p nn, loadPairNn_onlyRegs s p nn, setPair_pair s p nn,
      fun _ hq => setPair_pair_ne s nn hq, setPair_regs_a s p nn, setPair_regs_f s p nn, setPair_regs_pc s p nn⟩,
    fun s => ⟨rfl, _, rfl, onlyRegs_of rfl, rfl, regsKept_setCost (fun r _ => setSP_reg s s.hl r) 8, rfl, rfl⟩⟩

/-- Settles O19: the sum on integers is `add_sext16`, the flags are written as four values. -/
theorem stackPointerPlusDisplacement : Obligations.StackPointerPlusDisplacement := by
  intro e s
  have hkeptHL : s.regsKept (s.loadHLSPE e) [.h, .l] := regsKept_setHL (s := s) (s.regs.sp + sext16 e)
  have hkeptSP : s.regsKept (s.addSPE e) [] := fun r _ => setSP_reg s (s.regs.sp + sext16 e) r
  exact ⟨⟨decode_byteOperand rfl e [], _, rfl, onlyRegs_of rfl, (setHL_hl s _).trans (add_sext16 _ e), hkeptHL,
      flagsAre_of rfl, rfl, rfl⟩,
    ⟨decode_byteOperand rfl e [], _, rfl, onlyRegs_of rfl, add_sext16 _ e, hkeptSP, flagsAre_of rfl, rfl⟩⟩

/-- Settles O20: the instruction answers two bus writes. -/
theorem storeStackPointer : Obligations.StoreStackPointer := fun nn s =>
  ⟨decode_wordOperand rfl nn [], _, rfl, storeSP_writes s nn, by simp [State.storeSP]⟩

/-- Settles O21: the instruction answers two bus writes and moves SP. -/
theorem pushPair : Obligations.PushPair := fun q s => by
  have hregs := pushPair_regs s q
  exact ⟨encodedAs_push q, _, exec_push s q, pushPair_writes s q, by rw [hregs], pushPair_regsKept s q, by rw [hregs],
    by rw [hregs]⟩

/-- Settles O22: the word read at SP goes into the pair. -/
theorem popPair : Obligations.PopPair := fun q s =>
  ⟨encodedAs_pop q, _, exec_pop s q, popPair_onlyRegs s q, popPair_sp s q, setStackPair_regs_pc s.popped q s.popValue,
    popPair_stackPair s q, fun _ => popPair_stackPair_ne s⟩

/-- Settles O23: the word popped is the word pushed, and of the pairs the push changes none and the pop only its own. -/
theorem popAfterPush : Obligations.PopAfterPush := by
  intro p q s t u c1 c2 h1 h2 hne hpush hpop
  obtain rfl : s.pushPair p = t := Host.Outcome.next.inj ((exec_push s p).symm.trans hpush)
  obtain rfl : (s.pushPair p).popPair q = u := Host.Outcome.next.inj ((exec_pop _ q).symm.trans hpop)
  have hvalue := pushPair_popValue s p h1 h2 hne
  have hkept (q' : StackPair) : (s.pushPair p).stackPair q' = s.stackPair q' :=
    stackPair_congr (pushPair_regsKept s p) (by rw [pushPair_regs]) q'
  refine ⟨?_, hvalue ▸ popPair_stackPair _ q, fun q' hq' => (popPair_stackPair_ne _ hq').trans (hkept q')⟩
  rw [popPair_sp, pushPair_regs, BitVec.sub_add_cancel]

end Sys2Proof.Machine.Laws

/-! ### 8-bit arithmetic and logic (R160 to R192, family 42_alu8) -/

namespace Sys2Proof.Machine.Laws

open Sys2Proof.Laws

/-! ### Their encodings -/

theorem encodedAs_alu (op : AluOp) (m : AluForm) : (m.instr op).encodedAs (m.bytes op) := by
  cases m with
  | reg r => cases op <;> cases r <;> rfl
  | indHL => cases op <;> rfl
  | imm n => cases op <;> exact decode_byteOperand rfl n []
theorem encodedAs_incReg (r : Reg8) : (Instr.incReg r).encodedAs [0x04 + 8 * r.code] := by cases r <;> rfl
theorem encodedAs_decReg (r : Reg8) : (Instr.decReg r).encodedAs [0x05 + 8 * r.code] := by cases r <;> rfl

/-! ### What an instruction that answers a result and its flags leaves -/

/-- The shape every 8-bit operation on a register shares: the result goes to the register, the flags to F. -/
def putOut (s : State) (r : Reg8) (o : Out) (n : Nat) : State := ((s.setReg r o.res).setF o.flags).setCost n

section
variable (s : State)

theorem exec_alu_out (op : AluOp) (m : AluForm) :
    exec (m.instr op) s = .next (putOut s .a (aluOut op s.regs.a (m.value s) s.regs.f) m.cost) := exec_alu s op m
theorem exec_incReg_out (r : Reg8) : exec (Instr.incReg r) s = .next (putOut s r (inc8 (s.reg r) s.regs.f) 4) := exec_incReg s r
theorem exec_decReg_out (r : Reg8) : exec (Instr.decReg r) s = .next (putOut s r (dec8 (s.reg r) s.regs.f) 4) := exec_decReg s r
theorem exec_daa_out : exec .daa s = .next (putOut s .a (daaOut s.regs.a s.regs.f) 4) := rfl
theorem exec_cpl_out : exec .cpl s = .next (putOut s .a (cplOut s.regs.a s.regs.f) 4) := rfl

theorem regsKept_setF {t : State} {l : List Reg8} (h : s.regsKept t l) (f : Byte) : s.regsKept (t.setF f) l :=
  fun q hq => (setF_reg t f q).trans (h q hq)

@[simp] theorem putOut_reg (r : Reg8) (o : Out) (n : Nat) : (putOut s r o n).reg r = o.res := by simp [putOut]

theorem putOut_flagsAre {r : Reg8} {o : Out} {n : Nat} {z nf h c : Bool} (ho : o.flags = mkFlags z nf h c) :
    (putOut s r o n).flagsAre z nf h c := flagsAre_of (congrArg maskFlags ho)

theorem putOut_frame (r : Reg8) (o : Out) (n : Nat) :
    s.onlyRegs (putOut s r o n) n ∧ s.regsKept (putOut s r o n) [r] ∧
      (putOut s r o n).regs.sp = s.regs.sp ∧ (putOut s r o n).regs.pc = s.regs.pc :=
  ⟨onlyRegs_of (by rw [putOut, setReg_eq]; rfl), regsKept_setCost (regsKept_setF s (regsKept_setReg r o.res) o.flags) n,
    by simp [putOut], by simp [putOut]⟩

end

/-- An instruction that answers a result and its flags; `P` is what is asked of the register and F. -/
theorem exec_putOut_effect {s : State} {i : Instr} {r : Reg8} {o : Out} {n : Nat} {P : State → Prop}
    (h : exec i s = .next (putOut s r o n)) (hP : P (putOut s r o n)) :
    ∃ t, exec i s = .next t ∧ s.onlyRegs t n ∧ s.regsKept t [r] ∧ t.regs.sp = s.regs.sp ∧ t.regs.pc = s.regs.pc ∧ P t := by
  obtain ⟨hframe, hkept, hsp, hpc⟩ := putOut_frame s r o n
  exact ⟨_, h, hframe, hkept, hsp, hpc, hP⟩

/-- The same where the result is told apart from the flags. -/
theorem exec_writtenOut_effect {s : State} {i : Instr} {r : Reg8} {o : Out} {n : Nat} {P : Byte → Prop} {z nf h c : Bool}
    (hexec : exec i s = .next (putOut s r o n)) (hres : P o.res) (hflags : o.flags = mkFlags z nf h c) :
    ∃ t, exec i s = .next t ∧ s.onlyRegs t n ∧ P (t.reg r) ∧ s.regsKept t [r] ∧ t.flagsAre z nf h c ∧
      t.regs.sp = s.regs.sp ∧ t.regs.pc = s.regs.pc := by
  obtain ⟨hframe, hkept, hsp, hpc⟩ := putOut_frame s r o n
  exact ⟨_, hexec, hframe, (putOut_reg s r o n).symm ▸ hres, hkept, putOut_flagsAre s hflags, hsp, hpc⟩

/-- An instruction that writes the flags alone. -/
theorem exec_setF_effect {s : State} {i : Instr} {f : Byte} {n : Nat} {z nf h c : Bool}
    (hexec : exec i s = .next ((s.setF f).setCost n)) (hflags : f = mkFlags z nf h c) :
    ∃ t, exec i s = .next t ∧ s.onlyRegs t n ∧ s.regsKept t [] ∧ t.flagsAre z nf h c ∧
      t.regs.sp = s.regs.sp ∧ t.regs.pc = s.regs.pc :=
  ⟨_, hexec, onlyRegs_of rfl, regsKept_setCost (fun q _ => setF_reg s f q) n, flagsAre_of (congrArg maskFlags hflags), rfl, rfl⟩

/-- An instruction that makes one bus write and writes the flags. -/
theorem exec_memWrite_setF_effect {s : State} {i : Instr} {a : Word} {v f : Byte} {n : Nat} {z nf h c : Bool}
    (hexec : exec i s = .next (((s.memWrite a v).setF f).setCost n)) (hflags : f = mkFlags z nf h c) :
    ∃ t, exec i s = .next t ∧ s.onlyRegsAndWrite t a v n ∧ s.regsKept t [] ∧ t.flagsAre z nf h c ∧
      t.regs.sp = s.regs.sp ∧ t.regs.pc = s.regs.pc := by
  have hkept : s.regsKept (s.memWrite a v) [] := fun q _ => memWrite_reg s a v q
  exact ⟨_, hexec, onlyRegsAndWrite_withRegs a v _ n, regsKept_setCost (regsKept_setF s hkept f) n,
    flagsAre_of (congrArg maskFlags hflags), by simp, by simp⟩

/-! ### Results and flags as numbers -/

theorem ofNat_beq_zero (n : Nat) : (BitVec.ofNat 8 n == 0) = decide (n % 256 = 0) := by
  rw [beq_eq_decide, decide_eq_decide, ← BitVec.toNat_inj]
  rfl

theorem ofInt_beq_zero (d : Int) : (BitVec.ofInt 8 d == 0) = decide (d % 256 = 0) := by
  rw [beq_eq_decide, decide_eq_decide, ← BitVec.toNat_inj, BitVec.toNat_ofInt]
  change (d % 256).toNat = 0 ↔ _
  omega

theorem inc8_spec (old f : Byte) : (inc8 old f).res.toNat = (old.toNat + 1) % 256 ∧
    (inc8 old f).flags = mkFlags (decide (old.toNat = 255)) false (decide (old.toNat % 16 = 15)) (flagC f) := by
  have hz : (old + 1 == 0) = decide (old.toNat = 255) := by
    rw [beq_eq_decide, decide_eq_decide]; bv_omega
  exact ⟨BitVec.toNat_add old 1, by rw [← hz]; rfl⟩

theorem dec8_spec (old f : Byte) : (dec8 old f).res.toNat = (old.toNat + 255) % 256 ∧
    (dec8 old f).flags = mkFlags (decide (old.toNat = 1)) true (decide (old.toNat % 16 = 0)) (flagC f) := by
  have hz : (old - 1 == 0) = decide (old.toNat = 1) := by
    rw [beq_eq_decide, decide_eq_decide]; bv_omega
  exact ⟨by change (old - 1).toNat = _; bv_omega, by rw [← hz]; rfl⟩

theorem sub8_flags (a v : Byte) (c : Bool) :
    let diff : Int := (a.toNat : Int) - v.toNat - bitNat c
    (sub8 a v c).flags = mkFlags (decide (diff % 256 = 0)) true
      (decide ((a.toNat % 16 : Int) - (v.toNat % 16 : Int) - bitNat c < 0)) (decide (diff < 0)) := by
  simp only [sub8, ofInt_beq_zero]
  rfl

/-- R189: the adjustment is the sum of the two digits' corrections; they share no bit. -/
theorem daaAdjust_toNat (a f : Byte) : (daaAdjust a f).toNat =
    (if flagH f = true ∨ (flagN f = false ∧ a.toNat % 16 > 9) then 6 else 0) +
      (if flagC f = true ∨ (flagN f = false ∧ a.toNat > 0x99) then 0x60 else 0) := by
  simp only [daaAdjust, Bool.or_eq_true, Bool.and_eq_true, Bool.not_eq_true', decide_eq_true_eq]
  split <;> split <;> rfl

theorem daaOut_res_toNat (a f : Byte) : (daaOut a f).res.toNat =
    let low := if flagH f = true ∨ (flagN f = false ∧ a.toNat % 16 > 9) then 6 else 0
    let high := if flagC f = true ∨ (flagN f = false ∧ a.toNat > 0x99) then 0x60 else 0
    if flagN f then (a.toNat + 512 - (low + high)) % 256 else (a.toNat + low + high) % 256 := by
  extract_lets low high
  have hadj : (daaAdjust a f).toNat = low + high := daaAdjust_toNat a f
  change (if flagN f then a - daaAdjust a f else a + daaAdjust a f).toNat = _
  split
  · bv_omega
  · rw [BitVec.toNat_add, hadj, Nat.add_assoc]

/-- The digits of a sum of two packed BCD bytes, as an addition and DAA's two corrections leave them (R161, R189). -/
theorem decimalCorrection_digits {x y a b : Nat} (hx : x < 100) (hy : y < 100) (ha : a = x / 10 * 16 + x % 10)
    (hb : b = y / 10 * 16 + y % 10) :
    let sum := (a + b) % 256
    let low := if a % 16 + b % 16 > 0xF ∨ sum % 16 > 9 then 6 else 0
    let high := if a + b > 0xFF ∨ sum > 0x99 then 0x60 else 0
    (sum + low + high) % 256 = (x + y) % 100 / 10 * 16 + (x + y) % 10 ∧
      ((a + b > 0xFF ∨ sum > 0x99) ↔ x + y > 99) := by
  intro sum low high
  have hlow : low = if x % 10 + y % 10 > 9 then 6 else 0 := if_congr (by omega) rfl rfl
  have hhigh : (a + b > 0xFF ∨ sum > 0x99) ↔ x + y > 99 := by omega
  refine ⟨?_, hhigh⟩
  have hhigh' : high = if x + y > 99 then 0x60 else 0 := if_congr hhigh rfl rfl
  clear_value low high
  split at hlow <;> split at hhigh' <;> omega

/-! ### The statements -/

/-- Settles O24: A and F are `Add8`, with the carry as it stands for ADC alone. -/
theorem addAndAddWithCarry : Obligations.AddAndAddWithCarry := by
  intro carry m s op
  have hout : aluOut op s.regs.a (m.value s) s.regs.f = add8 s.regs.a (m.value s) (carry && flagC s.regs.f) := by
    cases carry <;> rfl
  refine ⟨encodedAs_alu op m, exec_putOut_effect (exec_alu_out s op m) ?_⟩
  rw [hout]
  exact ⟨BitVec.toNat_ofNat .., putOut_flagsAre s (ofNat_beq_zero _ ▸ rfl)⟩

/-- Settles O29: A and F are `daaOut`. -/
theorem decimalAdjust : Obligations.DecimalAdjust := fun s =>
  ⟨rfl, exec_putOut_effect (exec_daa_out s) ⟨daaOut_res_toNat s.regs.a s.regs.f, putOut_flagsAre s rfl⟩⟩

/-- Settles O30: O24 gives the state between the two instructions, O29 the state after them; the rest is about the digits. -/
theorem decimalSum : Obligations.DecimalSum := by
  intro x y s t u hx hy hadd hdaa
  obtain ⟨-, t', ht', -, -, -, -, hta, -, htn, hth, htc, -⟩ := addAndAddWithCarry false (.reg .b) s
  obtain ⟨-, u', hu', -, -, -, -, hua, -, -, -, huc, -⟩ := decimalAdjust t
  obtain rfl : t' = t := Host.Outcome.next.inj (ht'.symm.trans hadd)
  obtain rfl : u' = u := Host.Outcome.next.inj (hu'.symm.trans hdaa)
  have ha : s.regs.a.toNat = x / 10 * 16 + x % 10 := by rw [hx, BitVec.toNat_ofNat]; omega
  have hb : s.regs.b.toNat = y / 10 * 16 + y % 10 := by rw [hy, BitVec.toNat_ofNat]; omega
  obtain ⟨hdigits, hcarry⟩ := decimalCorrection_digits x.isLt y.isLt ha hb
  dsimp only [AluForm.value, State.reg] at hta hth htc hua
  simp only [Bool.false_and, Bool.false_eq_true, if_false, Nat.add_zero] at hta hth htc
  simp only [hta, htn, hth, htc, decide_eq_true_eq, true_and, Bool.false_eq_true, if_false] at hua
  simp only [hta, htn, htc, Bool.not_false, Bool.true_and, ← Bool.decide_or] at huc
  exact ⟨hua.trans hdigits, huc.trans (decide_eq_decide.mpr hcarry)⟩

/-- Settles O25: A and F are `Sub8`, with the carry as it stands for SBC alone; CP writes A back. -/
theorem subtractAndCompare : Obligations.SubtractAndCompare := by
  intro op m s hop
  have hcarry : (if op = .sbc ∧ s.regs.f.getLsbD 4 = true then 1 else 0 : Int) = bitNat (op == .sbc && flagC s.regs.f) := by
    by_cases h : op = .sbc <;> simp [bitNat, flagC, h]
  refine ⟨encodedAs_alu op m, exec_putOut_effect (exec_alu_out s op m) ?_⟩
  rw [hcarry]
  obtain rfl | rfl | rfl := hop <;> exact ⟨rfl, putOut_flagsAre s (sub8_flags ..)⟩

/-- Settles O26, by the operation. -/
theorem bitwiseLogic : Obligations.BitwiseLogic := by
  intro op m s hop
  refine ⟨encodedAs_alu op m, exec_putOut_effect (exec_alu_out s op m) ?_⟩
  obtain rfl | rfl | rfl := hop
  · exact ⟨fun _ => BitVec.getLsbD_and, putOut_flagsAre s rfl⟩
  · exact ⟨fun _ => BitVec.getLsbD_xor, putOut_flagsAre s rfl⟩
  · exact ⟨fun _ => BitVec.getLsbD_or, putOut_flagsAre s rfl⟩

/-- Settles O27: both instructions answer one register update with its flags. -/
theorem incrementDecrementRegister : Obligations.IncrementDecrementRegister := by
  intro r s
  obtain ⟨hincRes, hincFlags⟩ := inc8_spec (s.reg r) s.regs.f
  obtain ⟨hdecRes, hdecFlags⟩ := dec8_spec (s.reg r) s.regs.f
  exact ⟨⟨encodedAs_incReg r, exec_writtenOut_effect (P := (BitVec.toNat · = _)) (exec_incReg_out s r) hincRes hincFlags⟩,
    ⟨encodedAs_decReg r, exec_writtenOut_effect (P := (BitVec.toNat · = _)) (exec_decReg_out s r) hdecRes hdecFlags⟩⟩

/-- Settles O28: both instructions answer one bus write and the flags. -/
theorem incrementDecrementMemory : Obligations.IncrementDecrementMemory := by
  intro s old
  obtain ⟨-, hincFlags⟩ := inc8_spec old s.regs.f
  obtain ⟨-, hdecFlags⟩ := dec8_spec old s.regs.f
  exact ⟨⟨rfl, exec_memWrite_setF_effect rfl hincFlags⟩, ⟨rfl, exec_memWrite_setF_effect rfl hdecFlags⟩⟩

/-- Settles O31: CPL answers a result and its flags, SCF and CCF the flags alone. -/
theorem complementAndCarryFlag : Obligations.ComplementAndCarryFlag := by
  intro s z c
  have hnot : (~~~s.regs.a).toNat = 255 - s.regs.a.toNat := BitVec.toNat_not
  exact ⟨⟨rfl, exec_writtenOut_effect (P := (BitVec.toNat · = _)) (exec_cpl_out s) hnot rfl⟩,
    ⟨rfl, exec_setF_effect rfl rfl⟩, ⟨rfl, exec_setF_effect rfl rfl⟩⟩

end Sys2Proof.Machine.Laws

/-! ### 16-bit arithmetic (R200 to R202, family 43_alu16) -/

namespace Sys2Proof.Machine.Laws

open Sys2Proof

/-! ### Their encodings -/

theorem encodedAs_addHLPair (p : Pair) : (Instr.addHLPair p).encodedAs [0x09 + 16 * p.code] := by cases p <;> rfl
theorem encodedAs_incPair (p : Pair) : (Instr.incPair p).encodedAs [0x03 + 16 * p.code] := by cases p <;> rfl
theorem encodedAs_decPair (p : Pair) : (Instr.decPair p).encodedAs [0x0B + 16 * p.code] := by cases p <;> rfl

/-! ### What the instructions leave -/

theorem addHL_hl (s : State) (p : Pair) : (s.addHL p).hl = s.hl + s.pair p := setHL_hl s (s.hl + s.pair p)

theorem addHL_regsKept (s : State) (p : Pair) : s.regsKept (s.addHL p) [.h, .l] :=
  regsKept_setCost (regsKept_setF s (regsKept_setHL _) _) 8

/-- An instruction that writes one pair and nothing else; `P` is what is asked of the pair's value. -/
theorem exec_setPair_effect {s : State} {i : Instr} {p : Pair} {v : Word} {n : Nat} {P : Word → Prop}
    (h : exec i s = .next ((s.setPair p v).setCost n)) (hP : P v) :
    ∃ t, exec i s = .next t ∧ s.onlyRegs t n ∧ P (t.pair p) ∧ (∀ q, q ≠ p → t.pair q = s.pair q) ∧
      t.regs.a = s.regs.a ∧ t.regs.f = s.regs.f ∧ t.regs.pc = s.regs.pc := by
  have hframe : s.onlyRegs ((s.setPair p v).setCost n) n := onlyRegs_of (by rw [setPair_eq]; rfl)
  exact ⟨_, h, hframe, (setPair_pair s p v).symm ▸ hP, fun _ hq => setPair_pair_ne s v hq, by simp, by simp, by simp⟩

/-! ### The statements -/

/-- Settles O32: the flags are those of `addHLFlags`, computed from HL as it was. -/
theorem addToHL : Obligations.AddToHL := by
  intro p s
  have hsum : (s.addHL p).hl.toNat = (s.hl.toNat + (s.pair p).toNat) % 65536 := by rw [addHL_hl, BitVec.toNat_add]
  exact ⟨encodedAs_addHLPair p, _, exec_addHLPair s p, onlyRegs_of rfl, hsum, addHL_regsKept s p, flagsAre_of rfl, rfl, rfl⟩

/-- Settles O33: both instructions answer one pair update. -/
theorem incrementDecrementPair : Obligations.IncrementDecrementPair := by
  intro p s
  have hinc : (s.pair p + 1).toNat = ((s.pair p).toNat + 1) % 65536 := BitVec.toNat_add _ 1
  have hdec : (s.pair p - 1).toNat = ((s.pair p).toNat + 65535) % 65536 := by bv_omega
  exact ⟨⟨encodedAs_incPair p, exec_setPair_effect (P := (BitVec.toNat · = _)) (exec_incPair s p) hinc⟩,
    ⟨encodedAs_decPair p, exec_setPair_effect (P := (BitVec.toNat · = _)) (exec_decPair s p) hdec⟩⟩

end Sys2Proof.Machine.Laws

/-! ### Rotates, shifts and the bit instructions (R210 to R237, R275, family 44_rotate_shift_bit) -/

namespace Sys2Proof.Machine.Laws

open Sys2Proof

/-! ### The prefix -/

/-- The prefixed instruction that the fields `x`, `y`, `z` of a second byte name (R214), branch by branch as in `State.prefixed`. -/
def fieldsInstr (op2 : Byte) : Instr :=
  let y := op2.toNat / 8 % 8
  let b : Fin 8 := Fin.ofNat 8 y
  match op2.toNat / 64, regOfIndex (op2.toNat % 8) with
  | 0, some r => Instr.rotReg (rotOfIndex y) r
  | 0, none => Instr.rotIndHL (rotOfIndex y)
  | 1, some r => Instr.bitReg b r
  | 1, none => Instr.bitIndHL b
  | 2, some r => Instr.resReg b r
  | 2, none => Instr.resIndHL b
  | _, some r => Instr.setReg b r
  | _, none => Instr.setIndHL b

/-- The prefixed table is laid out by the fields of its index (R97, R214). -/
theorem prefixedInstr_eq_fieldsInstr : ∀ op2 : Byte, prefixedInstr op2 = some (fieldsInstr op2) := by decide +kernel

/-- Each branch of `State.prefixed` is the operation of the instruction its fields name. -/
theorem exec_fieldsInstr (s : State) (op2 : Byte) : exec (fieldsInstr op2) s = .next (s.prefixed op2) := by
  unfold fieldsInstr State.prefixed
  dsimp only
  generalize op2.toNat / 64 = x
  cases regOfIndex (op2.toNat % 8) with
  | some r =>
    match x with
    | 0 => exact exec_rotReg s _ r
    | 1 => exact exec_bitReg s _ r
    | 2 => exact exec_resReg s _ r
    | _ + 3 => exact exec_setReg s _ r
  | none =>
    match x with
    | 0 => exact exec_rotIndHL s _
    | 1 => exact exec_bitIndHL s _
    | 2 => exact exec_resIndHL s _
    | _ + 3 => exact exec_setIndHL s _

/-- Settles O38: the byte fetched is at PC, and the prefixed operation runs with PC past it. -/
theorem prefixSelectsSecondTable : Obligations.PrefixSelectsSecondTable := fun s =>
  ⟨_, s.prefixCB, prefixedInstr_eq_fieldsInstr _, rfl, exec_fieldsInstr (s.setPC (s.regs.pc + 1)) _⟩

/-! ### Their encodings -/

theorem encodedAs_rotReg (op : RotOp) (r : Reg8) : (Instr.rotReg op r).encodedAs [0xCB, 8 * op.code + r.code] := by
  cases op <;> cases r <;> rfl
theorem encodedAs_rotIndHL (op : RotOp) : (Instr.rotIndHL op).encodedAs [0xCB, 8 * op.code + 6] := by cases op <;> rfl

section
variable (b : Fin 8) (r : Reg8)

theorem encodedAs_bitReg : (Instr.bitReg b r).encodedAs [0xCB, 0x40 + 8 * BitVec.ofNat 8 b + r.code] := by
  fin_cases b <;> cases r <;> rfl
theorem encodedAs_bitIndHL : (Instr.bitIndHL b).encodedAs [0xCB, 0x46 + 8 * BitVec.ofNat 8 b] := by fin_cases b <;> rfl
theorem encodedAs_resReg : (Instr.resReg b r).encodedAs [0xCB, 0x80 + 8 * BitVec.ofNat 8 b + r.code] := by
  fin_cases b <;> cases r <;> rfl
theorem encodedAs_resIndHL : (Instr.resIndHL b).encodedAs [0xCB, 0x86 + 8 * BitVec.ofNat 8 b] := by fin_cases b <;> rfl
theorem encodedAs_setReg : (Instr.setReg b r).encodedAs [0xCB, 0xC0 + 8 * BitVec.ofNat 8 b + r.code] := by
  fin_cases b <;> cases r <;> rfl
theorem encodedAs_setIndHL : (Instr.setIndHL b).encodedAs [0xCB, 0xC6 + 8 * BitVec.ofNat 8 b] := by fin_cases b <;> rfl

end

/-! ### Results bit by bit -/

section
variable (v : Byte) (k : Fin 8)

/-- A shift to the left by one, with `c` moved in at bit 0. -/
theorem getLsbD_shiftLeft_fill (c : Bool) :
    ((v <<< 1) ||| (if c then 0x01 else 0x00)).getLsbD k = if k.val = 0 then c else v.getLsbD (k - 1) := by
  fin_cases k <;> cases c <;> simp

/-- A shift to the right by one, with `c` moved in at bit 7. -/
theorem getLsbD_shiftRight_fill (c : Bool) :
    ((v >>> 1) ||| (if c then 0x80 else 0x00)).getLsbD k = if k.val = 7 then c else v.getLsbD (k + 1) := by
  fin_cases k <;> cases c <;> simp

/-- R215: bit `k` of the result. -/
theorem getLsbD_rotResult (op : RotOp) (cin : Bool) : (rotResult op v cin).getLsbD k = rotatedBit op v cin k := by
  cases op with
  | rlc | rl => exact getLsbD_shiftLeft_fill v k _
  | rrc | rr => exact getLsbD_shiftRight_fill v k _
  | sla => simpa [rotResult, rotatedBit] using getLsbD_shiftLeft_fill v k false
  | srl => simpa [rotResult, rotatedBit] using getLsbD_shiftRight_fill v k false
  | sra | swap => fin_cases k <;> simp [rotResult, rotatedBit]

end

section
variable (v : Byte) (b k : Fin 8)

theorem getLsbD_one_shiftLeft : ((1 : Byte) <<< b.val).getLsbD k = decide (k = b) := by
  change (BitVec.twoPow 8 b.val).getLsbD k = _
  simp [Fin.ext_iff, eq_comm]

theorem getLsbD_resBit : (resBit b v).getLsbD k = if k = b then false else v.getLsbD k := by
  rw [resBit, BitVec.getLsbD_and, BitVec.getLsbD_not, getLsbD_one_shiftLeft]
  by_cases h : k = b <;> simp [h]

theorem getLsbD_setBit : (setBit b v).getLsbD k = if k = b then true else v.getLsbD k := by
  rw [setBit, BitVec.getLsbD_or, getLsbD_one_shiftLeft]
  by_cases h : k = b <;> simp [h]

end

theorem rotCarry_eq_rotatedCarry (op : RotOp) (v : Byte) : rotCarry op v = rotatedCarry op v := by cases op <;> rfl

theorem rotOut_flags (op : RotOp) (v f : Byte) : (rotOut op v f).flags =
    mkFlags (decide ((rotOut op v f).res = 0)) false false (rotatedCarry op v) := by
  rw [← rotCarry_eq_rotatedCarry, ← beq_eq_decide]
  rfl

/-! ### What the instructions leave -/

/-- The accumulator rotates are the first four of R215, with Z cleared. -/
theorem exec_rotateA_effect {s : State} {i : Instr} {op : RotOp} (h : exec i s = .next (s.rotateA op)) :
    ∃ t, exec i s = .next t ∧ s.onlyRegs t 4 ∧ s.regsKept t [.a] ∧ t.regs.sp = s.regs.sp ∧ t.regs.pc = s.regs.pc ∧
      (∀ k : Fin 8, t.regs.a.getLsbD k = rotatedBit op s.regs.a (s.regs.f.getLsbD 4) k) ∧
      t.flagsAre false false false (rotatedCarry op s.regs.a) := by
  have hflags : (rotAOut op s.regs.a s.regs.f).flags = mkFlags false false false (rotatedCarry op s.regs.a) := by
    rw [← rotCarry_eq_rotatedCarry]
    rfl
  exact exec_putOut_effect h ⟨fun k => getLsbD_rotResult s.regs.a k op _, putOut_flagsAre s hflags⟩

section
variable {s : State} {i : Instr} {v : Byte} {b : Fin 8} {c : Bool} {n : Nat}

/-- An instruction that writes the flags of BIT `b` of `v` and nothing else. -/
theorem exec_bitFlags_effect (h : exec i s = .next ((s.setF (bitFlags b v s.regs.f)).setCost n)) :
    ∃ t, exec i s = .next t ∧ s.onlyRegs t n ∧ s.regsKept t [] ∧ t.regs.sp = s.regs.sp ∧ t.regs.pc = s.regs.pc ∧
      t.flagsAre (!v.getLsbD b) false true (s.regs.f.getLsbD 4) := by
  obtain ⟨t, hexec, hframe, hkept, hflags, hsp, hpc⟩ := exec_setF_effect h rfl
  exact ⟨t, hexec, hframe, hkept, hsp, hpc, hflags⟩

/-- An instruction that writes a register back with bit `b` set to `c`. -/
theorem exec_setReg_bit_effect {r : Reg8} (h : exec i s = .next ((s.setReg r v).setCost n))
    (hv : ∀ k : Fin 8, v.getLsbD k = if k = b then c else (s.reg r).getLsbD k) :
    ∃ t, exec i s = .next t ∧ s.onlyRegs t n ∧ s.regsKept t [r] ∧ t.regs.f = s.regs.f ∧ t.regs.sp = s.regs.sp ∧
      t.regs.pc = s.regs.pc ∧ ∀ k : Fin 8, (t.reg r).getLsbD k = if k = b then c else (s.reg r).getLsbD k := by
  obtain ⟨t, hexec, hframe, rfl, hkept, hf, hsp, hpc⟩ := exec_setReg_effect h
  exact ⟨t, hexec, hframe, hkept, hf, hsp, hpc, hv⟩

/-- An instruction that writes the byte at HL back with bit `b` set to `c`. -/
theorem exec_memWrite_bit_effect (h : exec i s = .next ((s.memWrite s.hl v).setCost n))
    (hv : ∀ k : Fin 8, v.getLsbD k = if k = b then c else (s.memRead s.hl).getLsbD k) :
    ∃ t res, exec i s = .next t ∧ s.onlyRegsAndWrite t s.hl res n ∧ t.regs = s.regs ∧
      ∀ k : Fin 8, res.getLsbD k = if k = b then c else (s.memRead s.hl).getLsbD k := by
  obtain ⟨t, hexec, hframe, hregs⟩ := exec_memWrite_effect h
  exact ⟨t, v, hexec, hframe, hregs, hv⟩

end

/-! ### The statements -/

/-- Settles O34, by the instruction. -/
theorem accumulatorRotates : Obligations.AccumulatorRotates := by
  intro i byte s hi
  simp only [List.mem_cons, Prod.mk.injEq, List.not_mem_nil, or_false] at hi
  obtain ⟨rfl, rfl⟩ | ⟨rfl, rfl⟩ | ⟨rfl, rfl⟩ | ⟨rfl, rfl⟩ := hi
  · exact ⟨rfl, exec_rotateA_effect (op := .rlc) rfl⟩
  · exact ⟨rfl, exec_rotateA_effect (op := .rrc) rfl⟩
  · exact ⟨rfl, exec_rotateA_effect (op := .rl) rfl⟩
  · exact ⟨rfl, exec_rotateA_effect (op := .rr) rfl⟩

/-- Settles O35: a register or one bus write takes the result of `rotOut`, F its flags. -/
theorem rotateShiftSwap : Obligations.RotateShiftSwap := by
  refine ⟨fun op r s => ⟨encodedAs_rotReg op r, exec_putOut_effect (exec_rotReg s op r) ?_⟩,
    fun op s => ⟨encodedAs_rotIndHL op, ?_⟩⟩
  · rw [putOut_reg]
    exact ⟨fun k => getLsbD_rotResult _ k op _, putOut_flagsAre s (rotOut_flags op _ _)⟩
  · obtain ⟨t, hexec, hframe, hkept, hflags, hsp, hpc⟩ :=
      exec_memWrite_setF_effect (exec_rotIndHL s op) (rotOut_flags op (s.memRead s.hl) s.regs.f)
    exact ⟨t, _, hexec, hframe, hkept, hsp, hpc, fun k => getLsbD_rotResult _ k op _, hflags⟩

/-- Settles O36: both forms write the flags alone. -/
theorem testBit : Obligations.TestBit :=
  ⟨fun b r s => ⟨encodedAs_bitReg b r, exec_bitFlags_effect (exec_bitReg s b r)⟩,
    fun b s => ⟨encodedAs_bitIndHL b, exec_bitFlags_effect (exec_bitIndHL s b)⟩⟩

/-- Settles O37: every form answers one register update or one bus write, of `resBit` or `setBit`. -/
theorem clearAndSetBit : Obligations.ClearAndSetBit :=
  ⟨fun b r s => ⟨⟨encodedAs_resReg b r, exec_setReg_bit_effect (exec_resReg s b r) (getLsbD_resBit _ b)⟩,
      ⟨encodedAs_setReg b r, exec_setReg_bit_effect (exec_setReg s b r) (getLsbD_setBit _ b)⟩⟩,
    fun b s => ⟨⟨encodedAs_resIndHL b, exec_memWrite_bit_effect (exec_resIndHL s b) (getLsbD_resBit _ b)⟩,
      ⟨encodedAs_setIndHL b, exec_memWrite_bit_effect (exec_setIndHL s b) (getLsbD_setBit _ b)⟩⟩⟩

end Sys2Proof.Machine.Laws

/-! ### Jumps, calls and returns (R250 to R262, family 45_control) -/

namespace Sys2Proof.Machine.Laws

open Sys2Proof Sys2Proof.Laws

/-! ### Their encodings -/

theorem encodedAs_jpCond (cc : Cond) (nn : Word) :
    (Instr.jpCond cc nn).encodedAs [0xC2 + 8 * cc.code, nn.extractLsb' 0 8, nn.extractLsb' 8 8] := by
  cases cc <;> exact decode_wordOperand rfl nn []
theorem encodedAs_jrCond (cc : Cond) (e : Byte) : (Instr.jrCond cc e).encodedAs [0x20 + 8 * cc.code, e] := by
  cases cc <;> exact decode_byteOperand rfl e []
theorem encodedAs_callCond (cc : Cond) (nn : Word) :
    (Instr.callCond cc nn).encodedAs [0xC4 + 8 * cc.code, nn.extractLsb' 0 8, nn.extractLsb' 8 8] := by
  cases cc <;> exact decode_wordOperand rfl nn []
theorem encodedAs_retCond (cc : Cond) : (Instr.retCond cc).encodedAs [0xC0 + 8 * cc.code] := by cases cc <;> rfl
theorem encodedAs_rst (k : Fin 8) : (Instr.rst k).encodedAs [0xC7 + 8 * BitVec.ofNat 8 k] := by fin_cases k <;> rfl

/-! ### The relative and the conditional forms as one register update (R252, R254, R255, R259) -/

variable (s : State)

theorem jumpIf_eq (cc : Cond) (nn : Word) : s.jumpIf cc nn =
    (s.setPC (if s.holds cc then nn else s.regs.pc)).setCost (if s.holds cc then 16 else 12) := by
  rw [State.jumpIf, cond_eq_holds]
  split <;> rfl

theorem jumpRel_eq (e : Byte) : s.jumpRel e =
    (s.setPC (BitVec.ofInt 16 ((s.regs.pc.toNat : Int) + e.toInt))).setCost 12 := by
  rw [State.jumpRel, add_sext16]

theorem jumpRelIf_eq (cc : Cond) (e : Byte) : s.jumpRelIf cc e =
    (s.setPC (if s.holds cc then BitVec.ofInt 16 ((s.regs.pc.toNat : Int) + e.toInt) else s.regs.pc)).setCost
      (if s.holds cc then 12 else 8) := by
  rw [State.jumpRelIf, cond_eq_holds, add_sext16]
  split <;> rfl

theorem retIf_eq (cc : Cond) : s.retIf cc =
    State.setCost { s with regs := if s.holds cc then { s.regs with sp := s.regs.sp + 2, pc := s.popValue } else s.regs }
      (if s.holds cc then 20 else 8) := by
  rw [State.retIf, cond_eq_holds]
  split <;> rfl

/-! ### What the instructions leave -/

section
variable {s} {i : Instr} {n : Nat}

/-- An instruction that writes registers and nothing else. -/
theorem exec_withRegs_effect {r : Regs} (h : exec i s = .next (State.setCost { s with regs := r } n)) :
    ∃ t, exec i s = .next t ∧ s.onlyRegs t n ∧ t.regs = r :=
  ⟨_, h, onlyRegs_of rfl, rfl⟩

/-- CALL, a taken CALL cc and RST (R256, R257, R262): two bus writes, SP moved past them, PC at the target. -/
theorem exec_called_effect {target : Word} (h : exec i s = .next (((s.push16 s.regs.pc).setPC target).setCost n)) :
    ∃ t, exec i s = .next t ∧
      s.onlyRegsAndWrites t (s.regs.sp - 1) (hiByte s.regs.pc) (s.regs.sp - 2) (loByte s.regs.pc) n ∧
      t.regs = { s.regs with sp := s.regs.sp - 2, pc := target } := by
  rw [push16_eq] at h
  exact ⟨_, h, onlyRegsAndWrites_of (by simp [State.setPC, State.setCost]), rfl⟩

end

/-! ### The statements -/

/-- Settles O39: every form answers one update of PC, the conditional ones to PC itself when not taken. -/
theorem jumps : Obligations.Jumps := fun nn e cc s =>
  ⟨⟨decode_wordOperand rfl nn [], exec_withRegs_effect rfl⟩,
    ⟨encodedAs_jpCond cc nn, exec_withRegs_effect (jumpIf_eq s cc nn ▸ exec_jpCond s cc nn)⟩,
    ⟨rfl, exec_withRegs_effect rfl⟩,
    ⟨decode_byteOperand rfl e [], exec_withRegs_effect (congrArg Host.Outcome.next (jumpRel_eq s e))⟩,
    ⟨encodedAs_jrCond cc e, exec_withRegs_effect (jumpRelIf_eq s cc e ▸ exec_jrCond s cc e)⟩⟩

/-- Settles O40: every form that calls answers the push of PC and the jump; the one not taken answers its cost alone. -/
theorem calls : Obligations.Calls := by
  intro nn cc k s called
  have hcond := exec_callCond s cc nn
  rw [State.callIf, cond_eq_holds] at hcond
  refine ⟨⟨decode_wordOperand rfl nn [], exec_called_effect rfl⟩, ⟨encodedAs_rst k, exec_called_effect (exec_rst s k)⟩,
    encodedAs_callCond cc nn, ?_⟩
  cases hc : s.holds cc with
  | true => exact exec_called_effect (by simpa [hc] using hcond)
  | false => exact exec_withRegs_effect (r := s.regs) (by simpa [hc] using hcond)

/-- Settles O41: every form that returns answers the word read at SP as PC and moves SP past it. -/
theorem returns : Obligations.Returns := fun cc s =>
  ⟨⟨rfl, exec_withRegs_effect rfl⟩,
    ⟨encodedAs_retCond cc, exec_withRegs_effect (retIf_eq s cc ▸ exec_retCond s cc)⟩,
    ⟨rfl, _, rfl, rfl, rfl⟩⟩

end Sys2Proof.Machine.Laws

/-! ### System instructions (R270 to R276, family 46_misc) -/

namespace Sys2Proof.Machine.Laws

open Sys2Proof

variable (s : State)

/-! ### What the shared operations leave -/

theorem setCost_eq (n : Nat) : s.setCost n = { s with ctl := { s.ctl with cost := n } } := rfl

theorem requestIme_setCost_eq (v : Bool) (n : Nat) : (s.requestIme v).setCost n =
    { s with irq := { s.irq with pipe1 := some v }, ctl := { s.ctl with cost := n } } := rfl

/-- HALT with the global enable in effect (R271); the pipeline of requests is not asked. -/
theorem haltCpu_of_ime (h : s.irq.ime = true) :
    s.haltCpu = { s with ctl := { s.ctl with halted := true, cost := 4 } } := by
  rw [State.haltCpu, if_pos h, setCost_eq]

/-- HALT without it: the quirk (R271, R91). -/
theorem haltCpu_of_not_ime (h : s.irq.ime = false) :
    s.haltCpu = { s with ctl := { s.ctl with haltBug := true, cost := 4 } } := by
  rw [State.haltCpu, if_neg (by simp [h]), setCost_eq]

/-- The raise (R276, R440): PC at the offending byte and the sticky fault, no cost. -/
theorem raiseUnimplemented_eq (op : Byte) : s.raiseUnimplemented op =
    { s with
      regs := { s.regs with pc := s.ctl.instrAddr }
      ctl := { s.ctl with fault := some (.unimplementedOpcode op s.ctl.instrAddr) } } := rfl

theorem exec_halt : exec .halt s = .next s.haltCpu := rfl

/-! ### The statements -/

/-- Settles O42: NOP answers its cost alone, EI and DI a request put into the pipeline, which the step moves on (R436). -/
theorem nopAndEnableRequests : Obligations.NopAndEnableRequests := by
  intro s costs4
  refine ⟨rfl, rfl, rfl, ?nop, ?ei, ?di⟩
  case nop => exact congrArg Host.Outcome.next (setCost_eq s 4)
  case ei => exact congrArg Host.Outcome.next (requestIme_setCost_eq s true 4)
  case di => exact congrArg Host.Outcome.next (requestIme_setCost_eq s false 4)

/-- Settles O43, by the global enable in effect. -/
theorem haltOrQuirk : Obligations.HaltOrQuirk := by
  intro s
  rw [exec_halt]
  exact ⟨rfl, fun h => congrArg Host.Outcome.next (haltCpu_of_ime s h),
    fun h => congrArg Host.Outcome.next (haltCpu_of_not_ime s h)⟩

/-- Settles O44: each of the twelve answers the raise of its own opcode. -/
theorem unimplementedOpcodes : Obligations.UnimplementedOpcodes := by
  intro s n raised
  have raise (op : Byte) : .next (s.raiseUnimplemented op) = raised op :=
    congrArg Host.Outcome.next (raiseUnimplemented_eq s op)
  exact ⟨raise 0x10, raise 0xD3, raise 0xDB, raise 0xDD, raise 0xE3, raise 0xE4, raise 0xEB, raise 0xEC, raise 0xED,
    raise 0xF4, raise 0xFC, raise 0xFD⟩

end Sys2Proof.Machine.Laws

/-! ### The PPU (R303, R310 to R346, family 50_ppu) -/

namespace Sys2Proof.Machine.Laws

open Sys2Proof

/-! ### The status interrupt's bit (R314, R318, R320) -/

/-- IF bit 1, when there is a cause to raise it. -/
def statBit (b : Bool) : Byte := if b then 0x02 else 0x00

/-- The compare with LYC, when LY becomes `l`, and its enable bit. -/
def lycHit (p : Ppu) (l : Byte) : Bool := decide (l = p.lyc) && p.stat.getLsbD 6

theorem setLY_zero (v : Byte) (p : Ppu) : setLY v (p, 0) = ({ p with ly := v }, statBit (lycHit p v)) := by
  simp [setLY_eq, statBit, lycHit]

theorem statEvent_zero (b : Nat) (p : Ppu) : statEvent b (p, 0) = (p, statBit (p.stat.getLsbD b)) := by
  simp [statEvent_eq, statBit]

/-- Two causes raise the one bit. -/
theorem statBit_or (a b : Bool) : statBit a ||| statBit b = statBit (a || b) := by
  cases a <;> cases b <;> rfl

theorem statEvent_statBit (b : Nat) (p : Ppu) (a : Bool) :
    statEvent b (p, statBit a) = (p, statBit (a || p.stat.getLsbD b)) := by
  rw [statEvent_eq, ← statBit_or]
  rfl

/-- At the entry to VBlank IF bit 0 is raised as well (R316). -/
theorem statEvent_statBit_vBlank (b : Nat) (p : Ppu) (a : Bool) :
    statEvent b (p, statBit a ||| 0x01) = (p, 0x01 ||| statBit (a || p.stat.getLsbD b)) := by
  rw [statEvent_eq, ← statBit_or, BitVec.or_comm (statBit a), BitVec.or_assoc]
  rfl

/-! ### One round of the sequencer, mode by mode (R310) -/

/-- Rendering does not ask the mode or the cycles. -/
theorem renderLine_withMode (m : Memory) (p : Ppu) (mode : PpuMode) (n ly : Nat) :
    renderLine m { p with mode := mode, acc := n } ly = { p with mode := mode, acc := n, fb := (renderLine m p ly).fb } := rfl

theorem byte_succ_eq_144 (b : Byte) : b + 1 = 144 ↔ b = 143 := by
  constructor <;> intro h <;> bv_omega

section
variable {m : Memory} {p : Ppu}

theorem ppuTransition_none (h : p.acc < modeBudget p.mode) : ppuTransition m (p, 0) = none :=
  if_pos h

theorem ppuTransition_oamScan (hm : p.mode = .oamScan) (h : 80 ≤ p.acc) :
    ppuTransition m (p, 0) = some ({ p with mode := .drawing, acc := p.acc - 80 }, 0) := by
  simp only [ppuTransition, hm, modeBudget, if_neg (Nat.not_lt.mpr h), enterMode]

theorem ppuTransition_drawing (hm : p.mode = .drawing) (h : 172 ≤ p.acc) :
    ppuTransition m (p, 0) =
      some ({ p with mode := .hBlank, acc := p.acc - 172, fb := (renderLine m p p.ly.toNat).fb },
        statBit (p.stat.getLsbD 3)) := by
  simp only [ppuTransition, hm, modeBudget, if_neg (Nat.not_lt.mpr h), enterMode, renderLine_withMode, statEvent_zero]

theorem ppuTransition_hBlank_last (hm : p.mode = .hBlank) (h : 204 ≤ p.acc) (hly : p.ly = 143) :
    ppuTransition m (p, 0) = some ({ p with mode := .vBlank, ly := 144, acc := p.acc - 204 },
      0x01 ||| statBit (lycHit p 144 || p.stat.getLsbD 4)) := by
  have hnext : p.ly + 1 = 144 := (byte_succ_eq_144 _).mpr hly
  simp only [ppuTransition, hm, modeBudget, if_neg (Nat.not_lt.mpr h), enterMode, setLY_zero, hnext, if_true,
    statEvent_statBit_vBlank]
  rfl

theorem ppuTransition_hBlank_next (hm : p.mode = .hBlank) (h : 204 ≤ p.acc) (hly : p.ly ≠ 143) :
    ppuTransition m (p, 0) = some ({ p with mode := .oamScan, ly := p.ly + 1, acc := p.acc - 204 },
      statBit (lycHit p (p.ly + 1) || p.stat.getLsbD 5)) := by
  simp only [ppuTransition, hm, modeBudget, if_neg (Nat.not_lt.mpr h), enterMode, setLY_zero, byte_succ_eq_144, if_neg hly,
    statEvent_statBit]
  rfl

theorem ppuTransition_vBlank_last (hm : p.mode = .vBlank) (h : 456 ≤ p.acc) (hly : p.ly = 153) :
    ppuTransition m (p, 0) = some ({ p with mode := .oamScan, ly := 0, acc := p.acc - 456 },
      statBit (lycHit p 0 || p.stat.getLsbD 5)) := by
  simp only [ppuTransition, hm, modeBudget, if_neg (Nat.not_lt.mpr h), enterMode, setLY_zero, if_pos hly, statEvent_statBit]
  rfl

theorem ppuTransition_vBlank_next (hm : p.mode = .vBlank) (h : 456 ≤ p.acc) (hly : p.ly ≠ 153) :
    ppuTransition m (p, 0) = some ({ p with mode := .vBlank, ly := p.ly + 1, acc := p.acc - 456 },
      statBit (lycHit p (p.ly + 1))) := by
  simp only [ppuTransition, hm, modeBudget, if_neg (Nat.not_lt.mpr h), enterMode, setLY_zero, if_neg hly]
  rfl

end

/-- Settles O53, mode by mode; in HBlank and in VBlank by whether the line is the last one. -/
theorem sequencerTransitions : Obligations.SequencerTransitions := by
  intro m p budget stat hit
  have hbudget : modeBudget p.mode = budget := rfl
  refine ⟨fun h => ppuTransition_none h, fun h => ?_⟩
  rw [← hbudget] at h ⊢
  cases hm : p.mode <;> rw [hm] at h
  case oamScan =>
    exact ⟨_, _, ppuTransition_oamScan hm h, rfl, rfl, fun _ => rfl, fun _ => ⟨rfl, rfl, rfl⟩, nofun, nofun, nofun, nofun, nofun⟩
  case drawing =>
    exact ⟨_, _, ppuTransition_drawing hm h, rfl, rfl, fun hne => absurd rfl hne, nofun, fun _ => ⟨rfl, rfl, rfl, rfl⟩,
      nofun, nofun, nofun, nofun⟩
  case hBlank =>
    by_cases hly : p.ly = 143
    · exact ⟨_, _, ppuTransition_hBlank_last hm h hly, rfl, rfl, fun _ => rfl, nofun, nofun, fun _ _ => ⟨rfl, rfl, rfl⟩,
        fun _ hne => absurd hly hne, nofun, nofun⟩
    · exact ⟨_, _, ppuTransition_hBlank_next hm h hly, rfl, rfl, fun _ => rfl, nofun, nofun, fun _ he => absurd he hly,
        fun _ _ => ⟨rfl, rfl, rfl⟩, nofun, nofun⟩
  case vBlank =>
    by_cases hly : p.ly = 153
    · exact ⟨_, _, ppuTransition_vBlank_last hm h hly, rfl, rfl, fun _ => rfl, nofun, nofun, nofun, nofun,
        fun _ _ => ⟨rfl, rfl, rfl⟩, fun _ hne => absurd hly hne⟩
    · exact ⟨_, _, ppuTransition_vBlank_next hm h hly, rfl, rfl, fun _ => rfl, nofun, nofun, nofun, nofun,
        fun _ he => absurd he hly, fun _ _ => ⟨rfl, rfl, rfl⟩⟩

/-! ### The frame (R312) -/

/-- The cycle of its line at which a mode begins (R310): OAMScan takes 80, Drawing 172; a line of VBlank is one piece. -/
def modeStart : PpuMode → Nat
  | .oamScan | .vBlank => 0
  | .drawing => 80
  | .hBlank => 252

/-- The place in the frame: the cycles since line 0 was entered (R312). -/
def frameClock (p : Ppu) : Nat := 456 * p.ly.toNat + modeStart p.mode + p.acc

/-- The line counter in its range, from 144 on exactly in VBlank: what R312 takes of a running PPU. -/
def InFrame (p : Ppu) : Prop := PpuShape p ∧ (p.mode = .vBlank → 144 ≤ p.ly.toNat)

theorem ppuTransition_inFrame {m : Memory} {q q' : Ppu × Byte} (h : ppuTransition m q = some q') (hq : InFrame q.1) :
    InFrame q'.1 := by
  obtain ⟨hshape, hvBlank⟩ := hq
  refine ⟨ppuTransition_shape h hshape, fun hv => ?_⟩
  have hsucc := byte_add_one hshape.1 (by decide)
  obtain ⟨-, -, -, -, hc⟩ := ppuTransition_cases h
  rcases hc with ⟨-, hm', -⟩ | ⟨-, hm', -⟩ | ⟨-, -, -, hly⟩ | ⟨-, -, hm', -⟩ | ⟨-, -, hm', -⟩ | ⟨hm, -, -, hly⟩
  case inr.inr.inl => rw [hly]; decide
  case inr.inr.inr.inr.inr => rw [hly, hsucc]; exact Nat.le_succ_of_le (hvBlank hm)
  all_goals rw [hm'] at hv; cases hv

/-- A transition keeps the place in the frame; the end of line 153 is the start of the next frame. -/
theorem ppuTransition_frameClock {m : Memory} {q q' : Ppu × Byte} (h : ppuTransition m q = some q') (hq : PpuShape q.1) :
    frameClock q'.1 ≡ frameClock q.1 [MOD 70224] := by
  have hsucc := byte_add_one hq.1 (by decide)
  obtain ⟨hdue, hacc, -, -, hc⟩ := ppuTransition_cases h
  unfold frameClock
  rw [hacc]
  rcases hc with ⟨hm, hm', hly⟩ | ⟨hm, hm', hly⟩ | ⟨hm, hlast, hm', hly⟩ | ⟨hm, -, hm', hly⟩ | ⟨hm, hlast, hm', hly⟩ |
    ⟨hm, -, hm', hly⟩ <;> simp only [hm, hm', hly, modeBudget, modeStart, Nat.ModEq] at hdue ⊢
  case inr.inr.inl => rw [(byte_succ_eq_144 _).mp hlast]; simp; omega
  case inr.inr.inr.inr.inl => rw [hlast]; simp; omega
  all_goals omega

/-- A tick moves the place in the frame by its cycles. -/
theorem ppuTick_frameClock (m : Memory) (n : Nat) {p : Ppu} (hp : InFrame p) (hon : p.displayOn = true) :
    InFrame (ppuTick m n p).1 ∧ frameClock (ppuTick m n p).1 ≡ frameClock p + n [MOD 70224] := by
  have hstart : frameClock { p with acc := p.acc + n } = frameClock p + n := (Nat.add_assoc _ _ _).symm
  rw [ppuTick, if_pos hon]
  refine ppuRun_induct (fun q => InFrame q.1 ∧ frameClock q.1 ≡ frameClock p + n [MOD 70224]) m ?_ _ _ ⟨hp, by rw [hstart]⟩
  rintro q q' h ⟨hq, hclock⟩
  exact ⟨ppuTransition_inFrame h hq, (ppuTransition_frameClock h hq.1).trans hclock⟩

/-- The mode at a cycle of a line (R310). -/
def modeAt (line cycle : Nat) : PpuMode :=
  if 144 ≤ line then .vBlank else if cycle < 80 then .oamScan else if cycle < 252 then .drawing else .hBlank

section
variable {p : Ppu} (hacc : p.acc < modeBudget p.mode)
include hacc

theorem lineCycle_lt : modeStart p.mode + p.acc < 456 := by
  cases hm : p.mode <;> rw [hm] at hacc <;> simp only [modeBudget, modeStart] at hacc ⊢ <;> omega

theorem frameClock_div : frameClock p / 456 = p.ly.toNat := by
  have := lineCycle_lt hacc
  unfold frameClock
  omega

theorem frameClock_lt (hp : InFrame p) : frameClock p < 70224 := by
  have := lineCycle_lt hacc
  have := hp.1.1
  unfold frameClock
  omega

theorem mode_eq_modeAt (hp : InFrame p) : p.mode = modeAt p.ly.toNat (modeStart p.mode + p.acc) := by
  obtain ⟨⟨-, hvisible⟩, hvBlank⟩ := hp
  unfold modeAt
  cases hm : p.mode <;> simp only [hm, modeBudget] at hacc
  case vBlank => rw [if_pos (hvBlank hm)]
  all_goals
    have hline : ¬ 144 ≤ p.ly.toNat := Nat.not_le.mpr (Nat.lt_succ_of_le (hvisible (by rw [hm]; decide)))
    rw [if_neg hline]
  case oamScan =>
    have hstart : modeStart .oamScan = 0 := rfl
    rw [if_pos (by omega)]
  case drawing =>
    have hstart : modeStart .drawing = 80 := rfl
    rw [if_neg (by omega), if_pos (by omega)]
  case hBlank =>
    have hstart : modeStart .hBlank = 252 := rfl
    rw [if_neg (by omega), if_neg (by omega)]

end

/-- The place in the frame says the line, the mode and the cycles within it. -/
theorem eq_of_frameClock_eq {p q : Ppu} (hp : InFrame p) (hpa : p.acc < modeBudget p.mode) (hq : InFrame q)
    (hqa : q.acc < modeBudget q.mode) (h : frameClock p = frameClock q) : p.mode = q.mode ∧ p.ly = q.ly ∧ p.acc = q.acc := by
  have hly : p.ly.toNat = q.ly.toNat := by rw [← frameClock_div hpa, h, frameClock_div hqa]
  have hcycle : modeStart p.mode + p.acc = modeStart q.mode + q.acc := by
    unfold frameClock at h
    omega
  have hmode : p.mode = q.mode := by rw [mode_eq_modeAt hpa hp, mode_eq_modeAt hqa hq, hly, hcycle]
  rw [hmode] at hcycle
  exact ⟨hmode, BitVec.eq_of_toNat_eq hly, Nat.add_left_cancel hcycle⟩

/-- Settles O52: after 70,224 cycles the place in the frame is the same, and it says the line, the mode and the cycles. -/
theorem frameIs70224Cycles : Obligations.FrameIs70224Cycles := by
  intro m p ⟨hly, hvisible, hacc, _⟩ hon hvBlank
  have hp : InFrame p := ⟨⟨hly, hvisible⟩, hvBlank⟩
  obtain ⟨hp', hclock⟩ := ppuTick_frameClock m 70224 hp hon
  obtain ⟨-, hacc', -⟩ := ppuTick_range m 70224 p hp.1 hon
  have hsame : frameClock (ppuTick m 70224 p).1 ≡ frameClock p [MOD 70224] := hclock.trans Nat.add_modEq_right
  exact eq_of_frameClock_eq hp' hacc' hp hacc (hsame.eq_of_lt_of_lt (frameClock_lt hacc' hp') (frameClock_lt hacc hp))

/-! ### Switching the display (R303) -/

section
variable {p : Ppu} {v : Byte}

theorem writeLcdc_off (hp : p.lcdc.getLsbD 7 = true) (hv : v.getLsbD 7 = false) :
    p.writeLcdc v = { p with lcdc := v, ly := 0, mode := .hBlank, acc := 0 } := by
  rw [Ppu.writeLcdc, hp, hv]
  rfl

theorem writeLcdc_on (hp : p.lcdc.getLsbD 7 = false) (hv : v.getLsbD 7 = true) :
    p.writeLcdc v = { p with lcdc := v, ly := 0, mode := .oamScan, acc := 0 } := by
  rw [Ppu.writeLcdc, hp, hv]
  rfl

theorem writeLcdc_same (h : p.lcdc.getLsbD 7 = v.getLsbD 7) : p.writeLcdc v = { p with lcdc := v } := by
  rw [Ppu.writeLcdc, h]
  cases v.getLsbD 7 <;> rfl

end

theorem memWrite_lcdc (s : State) (v : Byte) : s.memWrite 0xFF40 v = { s with ppu := s.ppu.writeLcdc v } := rfl

/-- Settles O54: the write is `Ppu.writeLcdc`'s, and a tick of the display switched off does nothing. -/
theorem displaySwitch : Obligations.DisplaySwitch := by
  intro s v m n
  rw [memWrite_lcdc]
  refine ⟨rfl, fun hon hv => ⟨writeLcdc_off hon hv, ppuTick_off m n _ ?_⟩, fun hoff hv => writeLcdc_on hoff hv,
    fun h => writeLcdc_same h⟩
  show (s.ppu.writeLcdc v).lcdc.getLsbD 7 = false
  rw [writeLcdc_lcdc, hv]

/-! ### Rendering a line (R330 to R336) -/

section
variable (m : Memory) (p : Ppu)

theorem renderLine_row (ly : Fin 144) (x : Fin 160) : (renderLine m p ly).fb[ly][x] = linePixel m p ly x := by
  simp [renderLine]

theorem renderLine_other_row {ly y : Fin 144} (h : y ≠ ly) : (renderLine m p ly).fb[y] = p.fb[y] := by
  have hne : ly.val ≠ y.val := fun he => h (Fin.ext he.symm)
  simp [renderLine, hne]

/-- With the sprites off the pixel is the background's, white while that is off too (R332, R336). -/
theorem linePixel_sprites_off (h : p.lcdc.getLsbD 1 = false) (ly x : Nat) :
    linePixel m p ly x = if p.lcdc.getLsbD 0 then shade p.bgp (bgWinIndex m p ly x) else 0 := by
  rw [linePixel, h]
  rfl

end

/-- Settles O55: `linePixel` gives the row's pixels. -/
theorem renderOneLine : Obligations.RenderOneLine := by
  intro m p ly q
  refine ⟨rfl, fun y hy => renderLine_other_row m p hy, fun hobj hbg x => ?off, fun hobj hbg x => ?on⟩
  all_goals rw [renderLine_row, linePixel_sprites_off m p hobj, hbg]
  case off => rfl
  case on => rfl

/-! ### A sprite's pixel (R346) -/

/-- A sprite of a strictly lower Y has claimed the column. -/
theorem claim_any_lt (claim : Option Byte) (y : Byte) :
    claim.any (fun cy => decide (cy.toNat < y.toNat)) = true ↔ ¬ ∀ c, claim = some c → y.toNat ≤ c.toNat := by
  cases claim <;> simp

/-- The sprite's pixel is behind a non-zero background index. -/
theorem behind_background (attr : Byte) (bg : BitVec 2) :
    (attr.getLsbD 7 && bg != 0) = true ↔ ¬ (attr.getLsbD 7 = false ∨ bg = 0) := by
  cases attr.getLsbD 7 <;> simp

section
variable {p : Ppu} {i : BitVec 2} {y attr : Byte} {px : Pixel}

theorem spritePixel_drawn (hi : i ≠ 0) (hclaim : ∀ c, px.claim = some c → y.toNat ≤ c.toNat)
    (hbg : attr.getLsbD 7 = false ∨ px.bg = 0) : spritePixel p i y attr px =
      { px with shade := shade (if attr.getLsbD 4 then p.obp1 else p.obp0) i, claim := some y } := by
  rw [spritePixel, if_neg hi, if_neg fun h => (claim_any_lt _ _).mp h hclaim, if_neg fun h => (behind_background _ _).mp h hbg]

theorem spritePixel_not_drawn (h : ¬ (i ≠ 0 ∧ (∀ c, px.claim = some c → y.toNat ≤ c.toNat) ∧
    (attr.getLsbD 7 = false ∨ px.bg = 0))) : spritePixel p i y attr px = px := by
  unfold spritePixel
  split
  · rfl
  next hi =>
    split
    · rfl
    next hclaim =>
      split
      · rfl
      next hbg =>
        rw [claim_any_lt, not_not] at hclaim
        rw [behind_background, not_not] at hbg
        exact absurd ⟨hi, hclaim, hbg⟩ h

end

/-- Settles O56, by the three conditions of R346 and their failing. -/
theorem spritePixelPriority : Obligations.SpritePixelPriority := by
  intro p i y attr px drawn
  exact ⟨fun ⟨hi, hclaim, hbg⟩ => spritePixel_drawn hi hclaim hbg, fun h => spritePixel_not_drawn h⟩

end Sys2Proof.Machine.Laws

/-! ### The clocks of a channel and the mix (R370 to R392, family 55_apu) -/

namespace Sys2Proof.Machine.Laws

open Sys2Proof

/-! ### The clocks, when they are due and when they are not (R376, R378, R380) -/

section
variable {a : Apu} {k : Chan}

theorem lengthClock_due (hon : (a.nr k 4).getLsbD 6 = true) (hlen : 0 < (a.ch k).length) :
    a.lengthClock k = a.setCh k { a.ch k with
      length := (a.ch k).length - 1
      active := (a.ch k).active && decide ((a.ch k).length ≠ 1) } := by
  have hzero : (a.ch k).length - 1 = 0 ↔ (a.ch k).length = 1 := by omega
  rw [Apu.lengthClock, if_pos ⟨hon, hlen⟩]
  by_cases h1 : (a.ch k).length = 1 <;> simp [hzero, h1]

theorem lengthClock_idle (h : (a.nr k 4).getLsbD 6 = false ∨ (a.ch k).length = 0) : a.lengthClock k = a :=
  if_neg fun ⟨hon, hlen⟩ => h.elim (fun hoff => Bool.noConfusion (hoff.symm.trans hon)) (Nat.ne_of_gt hlen)

/-- The volume after an envelope step (R378). -/
def envelopeStep (up : Bool) (v : BitVec 4) : BitVec 4 :=
  if up ∧ v.toNat < 15 then v + 1 else if ¬up ∧ 0 < v.toNat then v - 1 else v

theorem envelopeStep_toNat (up : Bool) (v : BitVec 4) :
    (envelopeStep up v).toNat = if up then min 15 (v.toNat + 1) else v.toNat - 1 := by
  unfold envelopeStep
  cases up
  case false =>
    simp only [Bool.false_eq_true, false_and, not_false_eq_true, true_and, if_false]
    split <;> bv_omega
  case true =>
    simp only [true_and, if_true, not_true, false_and, if_false]
    split <;> bv_omega

theorem envelopeClock_due (hactive : (a.ch k).active = true) (hperiod : (a.ch k).envPeriod ≠ 0)
    (hdue : (a.ch k).envPeriod.toNat ≤ (a.ch k).envTimer + 1) :
    a.envelopeClock k = a.setCh k { a.ch k with
      envTimer := 0
      volume := envelopeStep (a.ch k).envDir (a.ch k).volume } := by
  rw [Apu.envelopeClock, if_pos ⟨hactive, hperiod⟩, if_pos hdue]
  rfl

theorem sweepPeriod_toNat (v : Byte) : (v.extractLsb' 4 3).toNat = v.toNat / 16 % 8 := by
  simp [Nat.shiftRight_eq_div_pow]

theorem sweepShift_toNat (v : Byte) : (v.extractLsb' 0 3).toNat = v.toNat % 8 := by
  simp

/-- The frequency a sweep step computes (R380). -/
def sweepSum (a : Apu) : Nat :=
  let d := a.ch0.freq.toNat >>> (a.nr10.toNat % 8)
  if a.nr10.getLsbD 3 then a.ch0.freq.toNat - d else a.ch0.freq.toNat + d

theorem sweepSum_of_subtract (h : a.nr10.getLsbD 3 = true) :
    sweepSum a = a.ch0.freq.toNat - a.ch0.freq.toNat >>> (a.nr10.toNat % 8) := if_pos h

theorem sweepSum_of_add (h : a.nr10.getLsbD 3 = false) :
    sweepSum a = a.ch0.freq.toNat + a.ch0.freq.toNat >>> (a.nr10.toNat % 8) := if_neg (by rw [h]; decide)

theorem sweepClock_due (hactive : a.ch0.active = true) (hperiod : a.nr10.toNat / 16 % 8 ≠ 0)
    (hdue : a.nr10.toNat / 16 % 8 ≤ a.ch0.sweepTimer + 1) :
    a.sweepClock = a.setCh .ch0 (if 2047 < sweepSum a then { a.ch0 with sweepTimer := 0, active := false }
      else { a.ch0 with sweepTimer := 0, freq := BitVec.ofNat 11 (sweepSum a) }) := by
  simp only [Apu.sweepClock, sweepPeriod_toNat, sweepShift_toNat, ← Nat.shiftRight_eq_div_pow]
  rw [if_pos ⟨hactive, hperiod⟩, if_pos hdue]
  exact (apply_ite (a.setCh .ch0) (2047 < sweepSum a) _ _).symm

end

/-- A sum of at most 2047 is the new frequency (R380). -/
theorem sweepClock_sum {a : Apu} (hactive : a.ch0.active = true) (hperiod : a.nr10.toNat / 16 % 8 ≠ 0)
    (hdue : a.nr10.toNat / 16 % 8 ≤ a.ch0.sweepTimer + 1) (hsum : sweepSum a ≤ 2047) :
    a.sweepClock.ch0.freq.toNat = sweepSum a ∧ a.sweepClock.ch0.active = true := by
  rw [sweepClock_due hactive hperiod hdue, if_neg (by omega)]
  exact ⟨Nat.mod_eq_of_lt (by omega), hactive⟩

/-- A greater one disables the channel and leaves its frequency (R380). -/
theorem sweepClock_overflow {a : Apu} (hactive : a.ch0.active = true) (hperiod : a.nr10.toNat / 16 % 8 ≠ 0)
    (hdue : a.nr10.toNat / 16 % 8 ≤ a.ch0.sweepTimer + 1) (hsum : 2047 < sweepSum a) :
    a.sweepClock.ch0.active = false ∧ a.sweepClock.ch0.freq = a.ch0.freq := by
  rw [sweepClock_due hactive hperiod hdue, if_pos hsum]
  exact ⟨rfl, rfl⟩

/-! ### The sequencer's step, channel by channel (R370) -/

/-- What a sequencer step makes of one channel: the envelope clock on step 7, the sweep clock after the length clock on steps 2 and
6, the length clock alone on the other even steps. -/
theorem seqStepClock_ch (a : Apu) (k : Chan) : a.seqStepClock.ch k =
    if a.seqStep = 7 ∧ k ≠ .ch2 then (a.envelopeClock k).ch k
    else if (a.seqStep = 2 ∨ a.seqStep = 6) ∧ k = .ch0 then (a.lengthClock .ch0).sweepClock.ch0
    else if a.seqStep % 2 = 0 then (a.lengthClock k).ch k else a.ch k := by
  have hstep (b : Apu) (n : Nat) : Apu.ch { b with seqStep := n } k = b.ch k := by cases k <;> rfl
  rw [Apu.seqStepClock, hstep]
  by_cases h7 : a.seqStep = 7
  · simp [h7, envelopeClocks_ch]
  · by_cases h26 : a.seqStep = 2 ∨ a.seqStep = 6
    · have heven : a.seqStep % 2 = 0 := by omega
      simp only [h7, h26, heven, if_true, if_false, false_and, true_and]
      split
      next hk =>
        subst hk
        exact sweepClock_congr (by simp) (lengthClocks_ch a .ch0)
      next hk => rw [sweepClock_ch_ne _ hk, lengthClocks_ch]
    · simp only [h7, h26, if_false, false_and]
      split
      · exact lengthClocks_ch a k
      · rfl

/-- Settles O58: each clock by its own lemma, the sequencer's step by `seqStepClock_ch`. -/
theorem lengthEnvelopeSweepClocks : Obligations.LengthEnvelopeSweepClocks := by
  intro a k c
  refine ⟨fun hon hlen => ?length, lengthClock_idle, fun _ hactive hperiod hdue => ?envelope,
    fun hactive hperiod hdue => ?sweep, rfl, ?step⟩
  case length => rw [lengthClock_due hon hlen, setCh_ch_self]; exact ⟨rfl, rfl⟩
  case envelope =>
    rw [envelopeClock_due hactive hperiod hdue, setCh_ch_self]
    exact ⟨envelopeStep_toNat _ _, rfl⟩
  case sweep =>
    refine ⟨fun hsub => ?_, fun hadd hsum => ?_, fun hadd hsum => ?_⟩
    · have hfreq := a.ch0.freq.isLt
      rw [← sweepSum_of_subtract hsub]
      refine sweepClock_sum hactive hperiod hdue ?_
      rw [sweepSum_of_subtract hsub]
      exact (Nat.sub_le _ _).trans (by omega)
    · rw [← sweepSum_of_add hadd] at hsum ⊢
      exact sweepClock_sum hactive hperiod hdue hsum
    · exact sweepClock_overflow hactive hperiod hdue (by rwa [sweepSum_of_add hadd])
  case step =>
    obtain ⟨hvolume, -, -, htimer, hfreq, -, -, -, hsweepTimer, -⟩ := lengthClock_keeps a k
    obtain ⟨eactive, -, -, elength, efreq, -, -, -, esweepTimer, -⟩ := envelopeClock_keeps a k
    obtain ⟨svolume, -, -, stimer, slength, -⟩ := sweepClock_keeps (a.lengthClock .ch0)
    by_cases h7 : a.seqStep = 7 ∧ k ≠ .ch2
    · have hodd : ¬ a.seqStep % 2 = 0 := by omega
      have h26 : ¬ ((a.seqStep = 2 ∨ a.seqStep = 6) ∧ k = .ch0) := by omega
      rw [seqStepClock_ch, if_pos h7, if_neg hodd, if_pos h7, if_neg h26, if_neg hodd]
      exact ⟨elength, ⟨rfl, rfl⟩, efreq, esweepTimer, eactive⟩
    · rw [seqStepClock_ch, if_neg h7, if_neg h7]
      by_cases h26 : (a.seqStep = 2 ∨ a.seqStep = 6) ∧ k = .ch0
      · have heven : a.seqStep % 2 = 0 := by omega
        obtain ⟨-, rfl⟩ := id h26
        rw [if_pos h26, if_pos heven, if_pos h26]
        exact ⟨slength, ⟨svolume.trans hvolume, stimer.trans htimer⟩, rfl, rfl, rfl⟩
      · rw [if_neg h26, if_neg h26]
        split
        · exact ⟨rfl, ⟨hvolume, htimer⟩, hfreq, hsweepTimer, rfl⟩
        · exact ⟨rfl, ⟨rfl, rfl⟩, rfl, rfl, rfl⟩

/-! ### The mix (R390, R392) -/

section
variable (a : Apu) (m : Memory)

/-- A sample of wave memory has four bits (R365). -/
theorem waveSample_le (j : Nat) : waveSample m j ≤ 15 := by
  have hbyte := (Memory.read m (0xFF30 + j / 2)).isLt
  unfold waveSample
  dsimp only
  split <;> omega

/-- A channel's output has the size of a four-bit volume (R390). -/
theorem out_bounds (k : Chan) : -15 ≤ a.out m k ∧ a.out m k ≤ 15 := by
  have hvolume := (a.ch k).volume.isLt
  unfold Apu.out
  dsimp only
  split
  · decide
  · split
    case h_3 =>
      have hsample := (Nat.div_le_self (waveSample m (a.ch .ch2).phase)
        (2 ^ ((a.nr32.extractLsb' 5 2).toNat - 1))).trans (waveSample_le m _)
      generalize waveSample m (a.ch .ch2).phase / 2 ^ ((a.nr32.extractLsb' 5 2).toNat - 1) = sample at hsample ⊢
      split <;> omega
    all_goals split <;> omega

/-- What a channel adds to a side of the mix (R392). -/
def routedOut (routeBit : Nat) (k : Chan) : Int :=
  if a.nr51.getLsbD (routeBit + k.index) then a.out m k else 0

theorem routedOut_bounds (routeBit : Nat) (k : Chan) : -15 ≤ routedOut a m routeBit k ∧ routedOut a m routeBit k ≤ 15 := by
  unfold routedOut
  split
  · exact out_bounds a m k
  · decide

theorem mixSide_eq (routeBit : Nat) (level : BitVec 3) : a.mixSide m routeBit level =
    ([Chan.ch0, .ch1, .ch2, .ch3].map (routedOut a m routeBit)).sum * (level.toNat + 1 : Nat) := rfl

/-- Four outputs of at most 15, at a level of at most 8 (R392). -/
theorem mixSide_bounds (routeBit : Nat) (level : BitVec 3) :
    -480 ≤ a.mixSide m routeBit level ∧ a.mixSide m routeBit level ≤ 480 := by
  have hlevel : ((level.toNat + 1 : Nat) : Int) ≤ 8 := by have := level.isLt; omega
  have hpos : (0 : Int) ≤ (level.toNat + 1 : Nat) := Int.natCast_nonneg _
  have hsum : -60 ≤ ([Chan.ch0, .ch1, .ch2, .ch3].map (routedOut a m routeBit)).sum ∧
      ([Chan.ch0, .ch1, .ch2, .ch3].map (routedOut a m routeBit)).sum ≤ 60 := by
    have h0 := routedOut_bounds a m routeBit .ch0
    have h1 := routedOut_bounds a m routeBit .ch1
    have h2 := routedOut_bounds a m routeBit .ch2
    have h3 := routedOut_bounds a m routeBit .ch3
    simp only [List.map, List.sum_cons, List.sum_nil]
    omega
  rw [mixSide_eq]
  constructor <;> nlinarith

end

/-- Settles O59: each side by `mixSide_bounds`; without power there is no side to compute. -/
theorem mixBounds : Obligations.MixBounds := by
  intro a m
  have hoff (h : a.nr52.getLsbD 7 = false) : a.mix m = (0, 0) := if_neg (by rw [Apu.power, h]; decide)
  cases hpower : a.nr52.getLsbD 7
  · rw [hoff hpower]
    exact ⟨by decide, by decide, by decide, by decide, fun _ => rfl⟩
  · rw [Apu.mix, Apu.power, if_pos hpower]
    obtain ⟨l1, l2⟩ := mixSide_bounds a m 4 (a.nr50.extractLsb' 4 3)
    obtain ⟨r1, r2⟩ := mixSide_bounds a m 0 (a.nr50.extractLsb' 0 3)
    exact ⟨l1, l2, r1, r2, nofun⟩

end Sys2Proof.Machine.Laws

/-! ### The timers (R460 to R463, family 60_exceptions) -/

namespace Sys2Proof.Machine.Laws

open Sys2Proof

theorem timerPeriod_eq (tac : Byte) :
    timerPeriod tac = (match tac.toNat % 4 with | 0 => 1024 | 1 => 16 | 2 => 64 | _ => 256) := by
  have hbits : (tac.extractLsb' 0 2).toNat = tac.toNat % 4 := by simp
  rw [← hbits]
  rfl

section
variable (n : Nat) (t : Timer)

/-- DIV and its counter after a tick, whatever TIMA does (R460). -/
theorem timerTick_div :
    (timerTick n t).1.div = t.div + BitVec.ofNat 8 ((t.divCounter + n) / 256) ∧
      (timerTick n t).1.divCounter = (t.divCounter + n) % 256 := by
  cases h : t.tac.getLsbD 2
  · rw [timerTick_disabled n h]; exact ⟨rfl, rfl⟩
  · rw [timerTick_eq n h]; exact ⟨rfl, rfl⟩

/-- TMA and TAC are the program's (R460). -/
theorem timerTick_registers : (timerTick n t).1.tma = t.tma ∧ (timerTick n t).1.tac = t.tac := by
  cases h : t.tac.getLsbD 2
  · rw [timerTick_disabled n h]; exact ⟨rfl, rfl⟩
  · obtain ⟨-, -, -, htma, htac⟩ := timaIncrements_frame ((t.timaCounter + n) / timerPeriod t.tac) (t, 0)
    rw [timerTick_eq n h]
    exact ⟨htma, htac⟩

/-- DIV and its counter together are one 16-bit count of cycles (R460). -/
theorem timerTick_divCount :
    (256 * (timerTick n t).1.div.toNat + (timerTick n t).1.divCounter) % 65536 =
      (256 * t.div.toNat + t.divCounter + n) % 65536 := by
  obtain ⟨hdiv, hcounter⟩ := timerTick_div n t
  rw [hdiv, hcounter, BitVec.toNat_add, BitVec.toNat_ofNat]
  omega

end

/-- Settles O50: DIV by `timerTick_divCount`, TIMA by the increments due, none or one. -/
theorem timerCounting : Obligations.TimerCounting := by
  intro n t r p due
  have hp : timerPeriod t.tac = p := timerPeriod_eq t.tac
  obtain ⟨htma, htac⟩ := timerTick_registers n t
  obtain ⟨-, hcounter⟩ := timerTick_div n t
  refine ⟨timerTick_divCount n t, hcounter ▸ Nat.mod_lt _ (by decide), htma, htac, fun hoff => ?off, fun hon => ?on⟩
  case off =>
    rw [show r = _ from timerTick_disabled n hoff]
    exact ⟨rfl, rfl, rfl⟩
  case on =>
    have htick := timerTick_eq n hon
    rw [hp] at htick
    rw [show r = _ from htick]
    refine ⟨rfl, fun hdue => ?none, fun hdue hff => ?overflow, fun hdue hff => ?plain⟩
    all_goals rw [show (t.timaCounter + n) / p = _ from hdue]
    case none => exact ⟨rfl, rfl⟩
    case overflow => rw [repeatN_succ, timaIncrement_overflow 0 hff]; exact ⟨rfl, rfl⟩
    case plain => rw [repeatN_succ, timaIncrement_plain 0 hff]; exact ⟨rfl, rfl⟩

/-! ### Ticks add up (R460) -/

/-- A count taken in two parts: the rest of the first part is carried on. -/
theorem carry_div (c m n p : Nat) (hp : 0 < p) : (c + m) / p + ((c + m) % p + n) / p = (c + (m + n)) / p := by
  conv_rhs => rw [← Nat.add_assoc, ← Nat.div_add_mod (c + m) p, Nat.add_assoc, Nat.mul_add_div hp]

theorem carry_mod (c m n p : Nat) : ((c + m) % p + n) % p = (c + (m + n)) % p := by
  rw [Nat.mod_add_mod, Nat.add_assoc]

/-- DIV over two ticks in a row. -/
theorem div_carry (d : Byte) (c m n : Nat) :
    d + BitVec.ofNat 8 ((c + m) / 256) + BitVec.ofNat 8 (((c + m) % 256 + n) / 256) = d + BitVec.ofNat 8 ((c + (m + n)) / 256) := by
  rw [BitVec.add_assoc, ← BitVec.ofNat_add, carry_div _ _ _ 256 (by decide)]

theorem divTick_add (m n : Nat) (t : Timer) : divTick n (divTick m t) = divTick (m + n) t := by
  simp only [divTick, carry_mod, div_carry]

/-- Settles O51: the increments of two ticks in a row are those of one, and DIV and the counters are carried on. -/
theorem timerTicksAdd : Obligations.TimerTicksAdd := by
  intro m n t
  obtain ⟨-, htac⟩ := timerTick_registers m t
  cases h : t.tac.getLsbD 2
  case false =>
    rw [timerTick_disabled m h, timerTick_disabled n (t := divTick m t) h, timerTick_disabled (m + n) h, divTick_add]
    exact ⟨rfl, BitVec.or_self⟩
  case true =>
    rw [timerTick_eq n (by rw [htac]; exact h), timerTick_eq (m + n) h, htac, timerTick_eq m h]
    dsimp only
    rw [← carry_div t.timaCounter m n _ (timerPeriod_pos t.tac), repeatN_add, timaIncrements_with,
      timaIncrements_or _ _ (repeatN _ timaIncrement (t, 0)).2, carry_mod, carry_mod, div_carry]
    exact ⟨rfl, rfl⟩

end Sys2Proof.Machine.Laws

/-! ### The interrupt check and the dispatch (R450 to R455, family 60_exceptions) -/

namespace Sys2Proof.Machine.Laws

open Sys2Proof

/-! ### Which source is served (R453) -/

/-- The bytes `pending` gives: only the four sources' bits can be set (R450). -/
theorem masked_eq_zero {x : Byte} (h : ∀ i : Source, (x &&& Config.interruptMask).getLsbD i.bit = false) :
    x &&& Config.interruptMask = 0 := by
  have h0 := h .videoBlank
  have h1 := h .displayStatus
  have h2 := h .timerOverflow
  have h4 := h .inputEdge
  apply BitVec.eq_of_getLsbD_eq
  intro k hk
  interval_cases k <;> simp_all [Source.bit, Config.interruptMask]

theorem highestSource_none {pend : Byte} (h : highestSource pend = none) (i : Source) : pend.getLsbD i.bit = false := by
  have hall := List.find?_eq_none.mp h i (by cases i <;> decide)
  exact Bool.eq_false_iff.mpr hall

theorem highestSource_zero : highestSource 0 = none := by decide

/-- The list of sources rises in their bits, so the first one found is the lowest. -/
theorem highestSource_some {pend : Byte} {i : Source} (h : highestSource pend = some i) :
    pend.getLsbD i.bit = true ∧ ∀ j : Source, pend.getLsbD j.bit = true → i.bit ≤ j.bit := by
  obtain ⟨hi, before, after, hlist, hbefore⟩ := List.find?_eq_some_iff_append.mp h
  refine ⟨hi, fun j hj => ?_⟩
  have hmem : j ∈ before ++ i :: after := hlist ▸ by cases j <;> decide
  have hsorted : (before ++ i :: after).Pairwise fun a b => a.bit ≤ b.bit := hlist ▸ by decide
  obtain hj' | rfl | hj' : j ∈ before ∨ j = i ∨ j ∈ after := by simpa using hmem
  · simpa [hj] using hbefore j hj'
  · exact le_rfl
  · exact List.rel_of_pairwise_cons (List.pairwise_append.mp hsorted).2.1 hj'

section
variable (s : State)

theorem interruptCheck_idle (h : s.pending = 0) : s.interruptCheck = s := by
  rw [State.interruptCheck, h, highestSource_zero]

/-- An enabled source is pending: the lowest of them is the one the check finds. -/
theorem exists_highestSource (h : s.pending ≠ 0) : ∃ i, highestSource s.pending = some i :=
  Option.ne_none_iff_exists'.mp fun hnone => h (masked_eq_zero (highestSource_none hnone))

/-- The CPU awake: what an enabled pending source does whatever the global enable (R431, R453). -/
def awake (s : State) : State := { s with ctl := { s.ctl with halted := false } }

theorem interruptCheck_pending {i : Source} (h : highestSource s.pending = some i) :
    s.interruptCheck = if s.irq.ime then (awake s).dispatch i else awake s := by
  rw [State.interruptCheck, h]
  rfl

end

/-- Settles O6: the check serves the source `highestSource` finds, and that is the lowest. -/
theorem interruptCheckPriority : Obligations.InterruptCheckPriority := by
  intro s pend woken
  refine ⟨interruptCheck_idle s, fun hpend hime => ?_, fun hpend hime => ?_⟩
  all_goals obtain ⟨i, hi⟩ := exists_highestSource s hpend
  · rw [interruptCheck_pending s hi, hime]; rfl
  · exact ⟨i, by rw [interruptCheck_pending s hi, hime]; rfl, highestSource_some hi⟩

/-! ### Taking an interrupt (R452, R455) -/

section
variable (s : State) (i : Source)

/-- The state in which the PC is pushed: the serviced bit and the global enable are cleared already (R455). -/
def served : State :=
  { s with irq := { s.irq with flags := s.irq.flags &&& ~~~((1 : Byte) <<< i.bit), ime := false } }

theorem dispatch_eq : s.dispatch i =
    State.tick Config.intDispatchCycles (((served s i).push16 s.regs.pc).setPC i.vector) := rfl

@[simp] theorem dispatch_ctl : (s.dispatch i).ctl = { s.ctl with cycleClock := s.ctl.cycleClock + 5 } := by
  simp [dispatch_eq, tick_frame, served, Config.intDispatchCycles]
@[simp] theorem dispatch_plat : (s.dispatch i).plat = s.plat := by simp [dispatch_eq, tick_frame, served]
@[simp] theorem dispatch_ime : (s.dispatch i).irq.ime = false := by simp [dispatch_eq, tick_frame, served]
@[simp] theorem dispatch_pipe0 : (s.dispatch i).irq.pipe0 = s.irq.pipe0 := by simp [dispatch_eq, tick_frame, served]
@[simp] theorem dispatch_pipe1 : (s.dispatch i).irq.pipe1 = s.irq.pipe1 := by simp [dispatch_eq, tick_frame, served]
theorem dispatch_regs : (s.dispatch i).regs = { s.regs with sp := s.regs.sp - 2, pc := i.vector } := by
  rw [dispatch_eq, (tick_frame _ _).1, push16_eq]
  rfl

end

/-- A push onto two bytes of plain storage: two stores, and SP two lower (R148). -/
theorem push16_of_storageAt {s : State} {c1 c2 : Storage} (v : Word) (h1 : s.storageAt (s.regs.sp - 1) = some c1)
    (h2 : s.storageAt (s.regs.sp - 2) = some c2) : s.push16 v =
      { writeStorage (writeStorage s (hiByte v) c1) (loByte v) c2 with regs := { s.regs with sp := s.regs.sp - 2 } } := by
  rw [push16_eq, memWrite_of_storageAt s _ h1, memWrite_of_storageAt _ _ ((storageAt_writeStorage s _ c1 _).trans h2)]

/-- What a push onto plain storage reads back (R148). -/
theorem push16_memRead {s : State} {c1 c2 : Storage} (v : Word) (h1 : s.storageAt (s.regs.sp - 1) = some c1)
    (h2 : s.storageAt (s.regs.sp - 2) = some c2) (b : Word) : (s.push16 v).memRead b =
      if s.storageAt b = some c2 then loByte v else if s.storageAt b = some c1 then hiByte v else s.memRead b := by
  rw [← memRead_memWrite2_storage s _ _ h1 h2, push16_eq]
  rfl

/-- A store to plain storage leaves every register with behaviour. -/
theorem writeStorage_frame (s : State) (v : Byte) (c : Storage) :
    (writeStorage s v c).irq = s.irq ∧ (writeStorage s v c).timer = s.timer ∧ (writeStorage s v c).ppu = s.ppu ∧
      (writeStorage s v c).apu = s.apu ∧ (writeStorage s v c).bank = s.bank ∧ (writeStorage s v c).p1 = s.p1 := by
  cases c <;> exact ⟨rfl, rfl, rfl, rfl, rfl, rfl⟩

theorem push16_frame {s : State} {c1 c2 : Storage} (v : Word) (h1 : s.storageAt (s.regs.sp - 1) = some c1)
    (h2 : s.storageAt (s.regs.sp - 2) = some c2) :
    (s.push16 v).irq = s.irq ∧ (s.push16 v).timer = s.timer ∧ (s.push16 v).ppu = s.ppu ∧
      (s.push16 v).apu = s.apu ∧ (s.push16 v).bank = s.bank ∧ (s.push16 v).p1 = s.p1 := by
  rw [push16_of_storageAt v h1 h2]
  simp only [writeStorage_frame, and_self]

/-- Settles O7: registers and pipeline by the dispatch's frame, the stack by the two stores of the push. -/
theorem dispatchTakesInterrupt : Obligations.DispatchTakesInterrupt := by
  intro s i t before
  have hregs : t.regs = _ := dispatch_regs s i
  have hpc : t.regs.pc = i.vector := by rw [hregs]
  refine ⟨hpc.trans (by cases i <;> rfl), by rw [hregs], fun r _ => by unfold State.reg; rw [hregs], by rw [hregs],
    dispatch_ime s i, dispatch_pipe0 s i, dispatch_pipe1 s i, dispatch_ctl s i, dispatch_plat s i, ?_⟩
  intro u
  refine ⟨by simp only [u, hpc]; rfl, fun c1 c2 h1 h2 hne => ?_⟩
  have hread (b : Word) : u.memRead b =
      if s.storageAt b = some c2 then loByte s.regs.pc
      else if s.storageAt b = some c1 then hiByte s.regs.pc else before.memRead b :=
    (setPC_memRead _ _ b).trans (push16_memRead (s := before) s.regs.pc h1 h2 b)
  obtain ⟨hirq, htimer, hppu, hapu, hbank, hp1⟩ := push16_frame (s := before) s.regs.pc h1 h2
  have huirq : u.irq = before.irq := (setPC_irq _ _).trans hirq
  have hne' : s.storageAt (s.regs.sp - 1) ≠ some c2 := fun h => hne (Option.some.inj (h1.symm.trans h))
  exact ⟨by rw [hread, if_neg hne', if_pos h1], by rw [hread, if_pos h2], by rw [huirq], by rw [huirq],
    (setPC_timer _ _).trans htimer, (setPC_ppu _ _).trans hppu, (setPC_apu _ _).trans hapu, (setPC_bank _ _).trans hbank,
    (setPC_p1 _ _).trans hp1, fun b hb1 hb2 => by rw [hread, if_neg hb2, if_neg hb1]⟩

/-! ### What the check leaves (R453) -/

section
variable (s : State)

/-- Everything the check can do. -/
theorem interruptCheck_cases :
    (s.pending = 0 ∧ s.interruptCheck = s) ∨ (s.pending ≠ 0 ∧ s.irq.ime = false ∧ s.interruptCheck = awake s) ∨
      (s.pending ≠ 0 ∧ s.irq.ime = true ∧ ∃ i, s.interruptCheck = (awake s).dispatch i) := by
  by_cases hpend : s.pending = 0
  · exact .inl ⟨hpend, interruptCheck_idle s hpend⟩
  · obtain ⟨i, hi⟩ := exists_highestSource s hpend
    rw [interruptCheck_pending s hi]
    cases hime : s.irq.ime
    · exact .inr (.inl ⟨hpend, rfl, rfl⟩)
    · exact .inr (.inr ⟨hpend, rfl, i, rfl⟩)

@[simp] theorem interruptCheck_plat : s.interruptCheck.plat = s.plat := by
  obtain ⟨-, h⟩ | ⟨-, -, h⟩ | ⟨-, -, i, h⟩ := interruptCheck_cases s <;> simp [h, awake]
@[simp] theorem interruptCheck_fault : s.interruptCheck.ctl.fault = s.ctl.fault := by
  obtain ⟨-, h⟩ | ⟨-, -, h⟩ | ⟨-, -, i, h⟩ := interruptCheck_cases s <;> simp [h, awake]
theorem interruptCheck_halted : s.interruptCheck.ctl.halted = true ↔ s.ctl.halted = true ∧ s.pending = 0 := by
  obtain ⟨hp, h⟩ | ⟨hp, -, h⟩ | ⟨hp, -, i, h⟩ := interruptCheck_cases s
  · rw [h, and_iff_left hp]
  · simp only [h, awake, Bool.false_eq_true, hp, and_false]
  · simp only [h, dispatch_ctl, awake, Bool.false_eq_true, hp, and_false]
/-- The check never sets the global enable. -/
theorem ime_of_interruptCheck (ht : s.interruptCheck.irq.ime = true) : s.irq.ime = true := by
  obtain ⟨-, h⟩ | ⟨-, -, h⟩ | ⟨-, himeOn, -⟩ := interruptCheck_cases s
  · rwa [h] at ht
  · rwa [h] at ht
  · exact himeOn
/-- Only a dispatch takes cycles (R455). -/
theorem interruptCheck_cycleClock : s.interruptCheck.ctl.cycleClock =
    s.ctl.cycleClock + if s.irq.ime = true ∧ s.pending ≠ 0 then 5 else 0 := by
  obtain ⟨hp, h⟩ | ⟨-, hime, h⟩ | ⟨hp, hime, i, h⟩ := interruptCheck_cases s
  · rw [h, if_neg fun hc => hc.2 hp]; rfl
  · rw [h, if_neg fun hc => absurd (hime.symm.trans hc.1) (by decide)]; rfl
  · rw [h, if_pos ⟨hime, hp⟩, dispatch_ctl]; rfl

end

/-! ### A step (R430, R431, R436, R440) -/

section
variable {s : State}

theorem step_fault {f : Fault} (hf : s.ctl.fault = some f) : step s = .fault f := by
  rw [step, hf]

theorem step_halted (hf : s.ctl.fault = none) (hh : s.ctl.halted = true) : step s = .next s.unmapBoot.idleStep := by
  rw [step, hf]
  exact if_pos ((unmapBoot_halted s).trans hh)

theorem step_running {i : Instr} {u w : State} (hf : s.ctl.fault = none) (hh : s.ctl.halted = false)
    (hfetch : s.unmapBoot.fetchInstr = some (i, u)) (hexec : exec i u = .next w) : step s = .next w.endStep := by
  simp only [step, hf, unmapBoot_halted, hh, hfetch, hexec]
  rfl

theorem endStep_of_fault (h : s.ctl.fault.isSome = true) : s.endStep = s := if_pos h

theorem endStep_of_no_fault (h : s.ctl.fault = none) : s.endStep = s.finishStep := if_neg (by simp [h])

theorem step_enabled (hf : s.ctl.fault = none) : ∃ t, step s = .next t := by
  cases hh : s.ctl.halted
  · obtain ⟨i, n, hfetch⟩ := fetchInstr_total s.unmapBoot
    obtain ⟨w, hexec, -⟩ := exec_ran (s.unmapBoot.afterFetch n) i
    exact ⟨_, step_running hf hh hfetch hexec⟩
  · exact ⟨_, step_halted hf hh⟩

end

section
variable (s : State)

@[simp] theorem tick_plat (n : Nat) : (State.tick n s).plat = s.plat := rfl
@[simp] theorem imeAdvance_plat : s.imeAdvance.plat = s.plat := rfl
@[simp] theorem finishStep_plat : s.finishStep.plat = s.plat := by simp [State.finishStep]
@[simp] theorem finishStep_fault : s.finishStep.ctl.fault = s.ctl.fault := by
  rw [State.finishStep, interruptCheck_fault, (tick_frame _ _).2.2.2.2.2.1]
  rfl
theorem endStep_plat : s.endStep.plat = s.plat :=
  (apply_ite State.plat _ _ _).trans (by rw [finishStep_plat, ite_self])

/-- The global enable a step ends with was in effect at its check, so it was on before, or the instruction of the step before had
requested it (R436). -/
theorem ime_of_finishStep (ht : s.finishStep.irq.ime = true) : s.irq.pipe0.getD s.irq.ime = true :=
  ime_of_interruptCheck _ ht

end

/-- Settles O3: the equations of a step are total while no fault is set, and no phase writes the platform. -/
theorem stepEnabledExactlyWithoutFault : Obligations.StepEnabledExactlyWithoutFault := by
  intro s
  refine ⟨fun hf => ?_, fun f hf => step_fault hf⟩
  obtain ⟨t, ht⟩ := step_enabled hf
  refine ⟨t, ht, ?_⟩
  obtain ⟨-, ⟨-, rfl⟩ | ⟨-, i, n, u, -, -, hran, rfl⟩⟩ := step_cases ht
  · exact (finishStep_plat _).trans (unmapBoot_plat s)
  · exact (endStep_plat u).trans (hran.plat.trans (unmapBoot_plat s))

/-- Settles O8: the pipeline's moves are `imeAdvance`'s, and a step ends with the check. -/
theorem globalEnableIsDelayed : Obligations.GlobalEnableIsDelayed := by
  refine ⟨fun s => ⟨?ime, rfl, rfl, fun b hb => ?next, rfl, rfl, rfl⟩, fun s t ht hfault hime => ?step⟩
  case ime =>
    show s.irq.pipe0.getD s.irq.ime = _
    cases s.irq.pipe0 <;> rfl
  case next =>
    show s.irq.pipe1.getD s.imeAdvance.irq.ime = b
    rw [hb, Option.getD_some]
  case step =>
    obtain ⟨-, ⟨-, rfl⟩ | ⟨-, i, n, u, -, -, hran, rfl⟩⟩ := step_cases ht
    · simpa using ime_of_finishStep _ hime
    · cases hu : u.ctl.fault with
      | none =>
        rw [endStep_of_no_fault hu] at hime
        simpa [hran.ime, hran.pipe0, State.afterFetch] using ime_of_finishStep u hime
      | some f =>
        rw [endStep_of_fault (by rw [hu]; rfl), hu] at hfault
        cases hfault

/-! ### The cycles of a step (R430, R431, R455) -/

/-- Phases 3 to 5 add the instruction's cost, and a dispatch's 5 if the check dispatches. -/
theorem finishStep_cycleClock (w : State) :
    let atCheck := State.tick w.ctl.cost w.imeAdvance
    w.finishStep.ctl.cycleClock = w.ctl.cycleClock + w.ctl.cost +
      if atCheck.irq.ime = true ∧ atCheck.irq.enable &&& atCheck.irq.flags &&& 0x17 ≠ 0 then 5 else 0 :=
  interruptCheck_cycleClock _

/-- Settles O4, by the two things a step can do; of an instruction `Ran` says whether it raised the fault or answered a cost. -/
theorem cycleClockAdvances : Obligations.CycleClockAdvances := by
  intro s t ht
  obtain ⟨hf, ⟨hh, rfl⟩ | ⟨hrun, i, n, u, hfetch, hexec, hran, rfl⟩⟩ := step_cases ht
  · refine .inr ⟨by simp [State.idleStep, hf], s.unmapBoot.setCost 4, ?_, by simp, rfl, ?_⟩
    · rw [if_pos hh]; rfl
    · rw [← unmapBoot_cycleClock s]
      exact finishStep_cycleClock _
  · have hclock : u.ctl.cycleClock = s.ctl.cycleClock := hran.clock.trans (unmapBoot_cycleClock s)
    have hbefore : (s.unmapBoot.afterFetch n).ctl.fault = none := (unmapBoot_fault s).trans hf
    obtain ⟨hfault, hcost⟩ | ⟨hfault, -⟩ := hran.outcome
    · rw [hbefore] at hfault
      rw [endStep_of_no_fault hfault, ← hclock]
      exact .inr ⟨(finishStep_fault u).trans hfault, u, by rw [if_neg (by simp [hrun])]; exact ⟨i, _, hfetch, hexec⟩, hcost,
        rfl, finishStep_cycleClock u⟩
    · rw [endStep_of_fault hfault]
      exact .inl ⟨hfault, hclock⟩

/-! ### The halted CPU (R431) -/

/-- The idle step is a check after 4 cycles, and up to the check only the clock, the devices and the pipeline have moved. -/
theorem idleStep_check (s : State) : ∃ v : State, s.unmapBoot.idleStep = v.interruptCheck ∧
    v.pending = (State.tick 4 s).pending ∧ v.ctl.halted = s.ctl.halted ∧ v.irq.ime = s.irq.pipe0.getD s.irq.ime ∧
    v.regs = s.regs ∧ v.mem = s.mem ∧ v.extRam = s.extRam ∧ v.bank = s.bank ∧
    v.ctl.cycleClock = s.ctl.cycleClock + 4 := by
  rcases unmapBoot_cases s with h | h <;> rw [h] <;> exact ⟨_, rfl, rfl, rfl, rfl, rfl, rfl, rfl, rfl, rfl⟩

/-- Settles O5, by what the check at the end of the idle step does. -/
theorem haltedStepIdles : Obligations.HaltedStepIdles := by
  intro s hf hh
  obtain ⟨v, hv, hpending, hhalted, hime, hregs, hmem, hext, hbank, hclock⟩ := idleStep_check s
  refine ⟨_, step_halted hf hh, ?_, fun hstay => ?_⟩
  · rw [hv, interruptCheck_halted, hhalted, hpending]
    exact and_iff_right hh
  · rw [hv] at hstay ⊢
    rw [interruptCheck_halted, ← hime] at hstay
    obtain ⟨-, h⟩ | ⟨-, -, h⟩ | ⟨hpend, hon, -⟩ := interruptCheck_cases v
    · rw [h]; exact ⟨hregs, hmem, hext, hbank, hclock⟩
    · rw [h]; exact ⟨hregs, hmem, hext, hbank, hclock⟩
    · obtain ⟨-, hzero⟩ | hoff := hstay
      · exact absurd hzero hpend
      · exact absurd (hoff.symm.trans hon) (by decide)

/-! ### The decoded instruction (R91, R430) -/

theorem fetchInstr_of_decode {s : State} {i : Instr} {rest : List Byte} (h : decode s.fetchWindow = .ok (i, rest)) :
    s.fetchInstr = some (i, s.afterFetch (3 - rest.length)) := by
  rw [State.fetchInstr, h]

/-- Settles O1: the state after the fetch is `afterFetch`, and the step's equation runs it. -/
theorem stepRunsDecodedInstruction : Obligations.StepRunsDecodedInstruction := by
  intro s t i rest hf hh s0 next hdec hexec
  have hboot : s.unmapBoot = s0 := by simp [State.unmapBoot, s0]
  have hregs : s0.regs = s.regs := hboot ▸ unmapBoot_regs s
  have hnext : s0.pcAfterOpcode = next := by
    rw [State.pcAfterOpcode, hregs, ← hboot, unmapBoot_haltBug]
  have hfetch : s0.fetchInstr = some (i, s0.afterFetch (3 - rest.length)) :=
    fetchInstr_of_decode (by rw [State.fetchWindow, hnext, hregs]; exact hdec)
  refine step_running (u := s0.afterFetch (3 - rest.length)) hf hh (by rw [hboot]; exact hfetch) ?_
  rw [State.afterFetch, hnext, hregs, Nat.sub_right_comm]
  exact hexec

end Sys2Proof.Machine.Laws

/-! ### The host's actions (R454, R470, R480, family 60_exceptions) -/

namespace Sys2Proof.Machine.Laws

open Sys2Proof

/-- Some button goes from released to pressed (R454). -/
theorem newlyPressed_eq_zero_iff (old new : Byte) :
    new &&& ~~~old = 0 ↔ ¬ ∃ k : Fin 8, old.getLsbD k = false ∧ new.getLsbD k = true := by
  have hbit (k : Fin 8) : (new &&& ~~~old).getLsbD k = (new.getLsbD k && !old.getLsbD k) := by
    rw [BitVec.getLsbD_and, BitVec.getLsbD_not, decide_eq_true k.isLt, Bool.true_and]
  constructor
  · rintro h ⟨k, hold, hnew⟩
    have hk := hbit k
    rw [h, hold, hnew] at hk
    simp at hk
  · intro h
    apply BitVec.eq_of_getLsbD_eq
    intro k hk
    simp only [BitVec.ofNat_eq_ofNat, BitVec.getLsbD_zero]
    refine (hbit ⟨k, hk⟩).trans (Bool.eq_false_iff.mpr fun hpressed => h ⟨⟨k, hk⟩, ?_⟩)
    simpa [and_comm] using hpressed

/-- Settles O60: the flag by the bits that change; reset and load are `resetOn`. -/
theorem hostInputAndReset : Obligations.HostInputAndReset := by
  intro s mask cart
  refine ⟨?_, rfl, rfl⟩
  by_cases hnew : mask &&& ~~~s.plat.input = 0
  · rw [State.setInput, if_pos hnew, if_neg ((newlyPressed_eq_zero_iff _ _).mp hnew)]
  · rw [State.setInput, if_neg hnew, if_pos (not_not.mp (mt (newlyPressed_eq_zero_iff _ _).mpr hnew))]
    rfl

end Sys2Proof.Machine.Laws
